-- ==== Sys2Proof/Word.lean ====
section
/-! DEFINITION. The words of the Rendak 640: the byte of its links and cells, the 64-bit control word of a key
half, the 16-bit frame check, and the number of a screen. -/

namespace Sys2Proof

/-- One character of the property line or the media link, and one byte of a cell (R28, R163, R182). -/
abbrev Byte := BitVec 8

/-- The secret of a key half and one block of the keystream (R20, R36). -/
abbrev ControlWord := BitVec 64

/-- The check that closes every frame of both links (R166, R184). -/
abbrev Crc := BitVec 16

/-- Screens and lanes are numbered 0..3, and lane n serves screen n (00_scope, Conventions). -/
abbrev Screen := Fin 4

/-- The four screens in screen order, 0 first (R53). -/
abbrev screens : List Screen := [0, 1, 2, 3]

end Sys2Proof
end

