-- ==== Sys2Proof/Syntax.lean ====
section
/-! DEFINITION. The commands: one constructor for each row of spec/opcode_table.json, with the operands the spec gives
the event or request. A frame's operands are its address or tag and the bytes of its body, as they came off the wire. -/

namespace Sys2Proof

/-- The parity of a scrambled cell and of a key half (R20, R28). -/
inductive Parity where
  | even
  | odd
  deriving DecidableEq, Repr

/-- A timer kept in run seconds, which a run tick may find due (R56, R75, R80, R179). -/
inductive RunTimer where
  | preview (lane : Screen)
  | unlock (screen : Screen)
  | lockout
  | silence
  deriving DecidableEq, Repr

/-- A block's part of an event that moves the room clock: its test against the clock, or what it reports (R90, R121,
R175, R176). -/
inductive ClockTask where
  /-- viewing seconds (R121) -/
  | metering
  /-- key expiry (R25, R26) -/
  | keyHalves
  /-- rental ends (R123) -/
  | rentalEnds
  /-- the cap period (R100, R101) -/
  | capPeriod
  /-- event windows, by re-admission (R54) -/
  | windows
  /-- the CLOCK notice of a TIME_SET (R176) -/
  | clockNotice
  deriving DecidableEq, Repr

/-- What the reset pin's being held and let go brings: what the retention indicator shows at the start, and how many
room-clock seconds passed while the pin was held (R90, R108; log 43, DESIGN CHOICE). -/
structure ResetHold where
  retentionGood : Bool
  seconds : Nat
  deriving DecidableEq, Repr

/-- The commands. `order` names the order in which tests that fall due in one event are taken, which the rules leave
open; tasks it does not name follow in a fixed order (log 4, DESIGN CHOICE). `chars` are the characters the receiver has taken on
that link since its last event, in order of arrival (log 9, DESIGN CHOICE). -/
inductive Instr where
  -- starts and supply
  | powerOn (retentionGood : Bool) (order : List ClockTask)
  | resetPin (hold : ResetHold) (order : List ClockTask)
  -- run seconds
  | runTick (order : List RunTimer)
  | previewExpiry (lane : Screen)
  | unlockExpiry (screen : Screen)
  | lockoutEnd
  | lineDown
  -- the room clock
  | roomClockSecond (order : List ClockTask)
  | keyExpiry (slot : Fin 16) (parity : Parity)
  | rentalExpiry (index : Fin 8)
  | eventWindowEdge (service : BitVec 12)
  | capPeriodRollover
  -- cells
  | clearCell (lane : Screen) (service : BitVec 12) (continuity : BitVec 4) (epoch : BitVec 6) (payload : List Byte)
  | scrambledCell (lane : Screen) (parity : Parity) (service : BitVec 12) (continuity : BitVec 4) (epoch : BitVec 6) (payload : List Byte)
  | ratingCell (lane : Screen) (service : BitVec 12) (continuity : BitVec 4) (epoch : BitVec 6) (payload : List Byte)
  -- the property line's receiver
  | plBreak (chars : List Byte)
  | plFramingError (chars : List Byte)
  | plBodyCountAbort (chars : List Byte)
  | plBadCrcFrame (chars : List Byte)
  | frameNotForRoom (address : BitVec 10) (kind : BitVec 6) (body : List Byte)
  | plUnknownKind (address : BitVec 10) (kind : BitVec 6) (body : List Byte)
  -- the head-end's commands
  | lineupBegin (address : BitVec 10) (body : List Byte)
  | lineupEntry (address : BitVec 10) (body : List Byte)
  | lineupCommit (address : BitVec 10) (body : List Byte)
  | priceSet (address : BitVec 10) (body : List Byte)
  | keyLoad (address : BitVec 10) (body : List Byte)
  | timeSet (address : BitVec 10) (body : List Byte) (order : List ClockTask)
  | roomReset (address : BitVec 10) (body : List Byte)
  | checkIn (address : BitVec 10) (body : List Byte)
  | checkOut (address : BitVec 10) (body : List Byte)
  | roomUpdate (address : BitVec 10) (body : List Byte)
  | statusPoll (address : BitVec 10) (body : List Byte)
  | collect (address : BitVec 10) (body : List Byte)
  | confirm (address : BitVec 10) (body : List Byte)
  | decline (address : BitVec 10) (body : List Byte)
  | waive (address : BitVec 10) (body : List Byte)
  | revoke (address : BitVec 10) (body : List Byte)
  | screenShutdown (address : BitVec 10) (body : List Byte)
  | screenRestore (address : BitVec 10) (body : List Byte)
  | pinClear (address : BitVec 10) (body : List Byte)
  -- the reply on the property line
  | plReplySend
  | replyAbandoned (char : Byte)
  -- the media link's receiver and transmitter
  | mlBreak (chars : List Byte)
  | mlFramingError (chars : List Byte)
  | mlLengthAbort (chars : List Byte)
  | mlBadCrcFrame (chars : List Byte)
  | mlGoodFrame (kind : Byte) (tag : Byte) (body : List Byte)
  | transmitComplete
  -- the host's requests
  | mlUnknownRequest (kind : Byte) (tag : Byte) (body : List Byte)
  | identify (tag : Byte) (body : List Byte)
  | status (tag : Byte) (body : List Byte)
  | tune (tag : Byte) (body : List Byte)
  | untune (tag : Byte) (body : List Byte)
  | screenReport (tag : Byte) (body : List Byte)
  | lineupRead (tag : Byte) (body : List Byte)
  | purchase (tag : Byte) (body : List Byte)
  | cancelRental (tag : Byte) (body : List Byte)
  | rentalsRead (tag : Byte) (body : List Byte)
  | chargesRead (tag : Byte) (body : List Byte)
  | unlock (tag : Byte) (body : List Byte)
  | relock (tag : Byte) (body : List Byte)
  | setCeilings (tag : Byte) (body : List Byte)
  | setPin (tag : Byte) (body : List Byte)
  | noticesRead (tag : Byte) (body : List Byte)
  | noticeModes (tag : Byte) (body : List Byte)
  | setRoomAddress (tag : Byte) (body : List Byte)
  | restart (tag : Byte) (body : List Byte)
  | restartTakesEffect
  | powerLoss
  | plReplyComplete
  deriving DecidableEq, Repr

end Sys2Proof
end

