-- ==== Sys2Proof/Decode.lean ====
section
/-! DEFINITION. The command a word spells. No row of spec/opcode_table.json gives bits: a command is an event at a pin, a
frame or a tick of a clock, and none is spelled by a word. The frames' own bytes are read in Machine/Framing.lean. -/

namespace Sys2Proof

/-- The command that a word of `nbits` bits spells: none, since the table gives no row any bits (log 39, DEDUCED). -/
def decodeTableWord (_nbits _w : Nat) : Option Instr := none

end Sys2Proof
end

