-- ==== Sys2Proof/Machine/Limits.lean ====
section
/-! DEFINITION. The capacities and bounds the rules give, each said once. -/

namespace Sys2Proof.Machine

/-- The highest count of the room clock and of the run seconds, and the highest end kept in either (R90, R91, R115). -/
abbrev maxCount : Nat := 4294967295

/-- Entries of one service table (R2). -/
abbrev lineupCapacity : Nat := 384

/-- Rentals of the Rental List (R111). -/
abbrev rentalCapacity : Nat := 8

/-- Entries of the Charge Queue (R146). -/
abbrev queueCapacity : Nat := 12

/-- The length of queue at which a charge finds no place; the four places above are kept for credits (R147). -/
abbrev chargeLimit : Nat := 8

/-- Frames of the receive buffer (R184) and answers of the answer list (R185). -/
abbrev linkPlaces : Nat := 4

/-- The bound of session spend, the billed total and the spend limit (R88). -/
abbrev maxMoney : Nat := 9999999

/-- The bound of a cap as received (R88, R136). -/
abbrev maxCapReceived : Nat := 999999

/-- Wrong PINs that begin a lockout, and the bound of the failure count (R73, R74). -/
abbrev maxFailures : Nat := 3

/-- Run seconds of a lockout (R74, R75). -/
abbrev lockoutSeconds : Nat := 900

/-- Run seconds of silence that make the line DOWN, and the bound of the silence count (R179). -/
abbrev silenceLimit : Nat := 300

/-- The bound of a rental's viewed seconds (R110, R121). -/
abbrev maxViewed : Nat := 172800

/-- Instants of the purchase history (R104). -/
abbrev historyCapacity : Nat := 8

/-- Services of the preview-used list (R105). -/
abbrev previewCapacity : Nat := 32

/-- Seconds of a day, the distance of two cap-period boundaries (R100). -/
abbrev daySeconds : Nat := 86400

/-- Seconds before an event's start at which its sale opens (R113, check 5). -/
abbrev saleLead : Nat := 1800

/-- The highest raise count of a notice (R189). -/
abbrev maxRaises : Nat := 255

/-- The highest body count of a property line frame (R165). -/
abbrev plBodyLimit : Nat := 48

/-- The highest body length of a request (R183). -/
abbrev mlBodyLimit : Nat := 120

/-- The address of a broadcast (R167). -/
abbrev broadcastAddress : Nat := 1023

/-- Bytes of a cell's payload (R28). -/
abbrev payloadBytes : Nat := 192

end Sys2Proof.Machine
end

