-- ==== Sys2Proof/Machine/Bytes.lean ====
section
/-! DEFINITION. Byte order of multi-byte fields (11, opening) and the frame check of both links (R166). -/

namespace Sys2Proof.Machine

/-- The number whose bytes are `bs`, most significant byte first (00_scope, Byte order). -/
def beNat (bs : List Byte) : Nat :=
  bs.foldl (fun acc b => acc * 256 + b.toNat) 0

/-- The low `len` bytes of `n`, most significant byte first (00_scope, Byte order). -/
def beBytes : (len : Nat) → (n : Nat) → List Byte
  | 0, _ => []
  | len + 1, n => beBytes len (n / 256) ++ [BitVec.ofNat 8 n]

/-- The field of `len` bytes at `offset` of a body. -/
def field (body : List Byte) (offset len : Nat) : Nat :=
  beNat ((body.drop offset).take len)

/-- One bit of the frame check: generator x^16 + x^12 + x^5 + 1, most significant bit first (R166). -/
def crcBit (crc : Crc) : Crc :=
  if crc.msb then (crc <<< 1) ^^^ 0x1021#16 else crc <<< 1

/-- One byte of the frame check, most significant bit first (R166). -/
def crcByte (crc : Crc) (b : Byte) : Crc :=
  crcBit (crcBit (crcBit (crcBit (crcBit (crcBit (crcBit (crcBit (crc ^^^ ((b.zeroExtend 16) <<< 8)))))))))

/-- The frame check over a run of bytes, begun with all ones, with no final inversion (R166). -/
def crc16 (bs : List Byte) : Crc :=
  bs.foldl crcByte 0xFFFF#16

/-- The frame check as it is sent, most significant byte first (R166). -/
def crcBytes (bs : List Byte) : List Byte :=
  beBytes 2 (crc16 bs).toNat

end Sys2Proof.Machine
end

