-- ==== Sys2Proof/Machine/Framing.lean ====
section
/-! DEFINITION. The two receivers, character by character (R163 to R166, R182 to R184), and the bytes of the frames they
take (11.2, 11.5). What a complete frame does is said elsewhere; here it is only found. -/

namespace Sys2Proof.Machine

/-- The state of a receiver: looking for a lead or sync byte, or taking the bytes of one frame after it (R165, R183). -/
inductive Rx where
  | hunting
  | assembling (taken : List Byte)
  deriving DecidableEq, Repr

/-- A good frame of the property line: its address and kind word and its body (R165, R166). -/
structure PlFrame where
  address : BitVec 10
  kind : BitVec 6
  body : List Byte
  deriving DecidableEq, Repr

/-- A good frame of the media link (R183, R184). -/
structure MlFrame where
  kind : Byte
  tag : Byte
  body : List Byte
  deriving DecidableEq, Repr

/-- What one character brings a receiver to. -/
inductive RxEvent (φ : Type) where
  /-- nothing beyond the receiver's own state -/
  | quiet
  /-- a count or length out of range ended the frame (R165, R183) -/
  | tooLong
  /-- a complete frame whose check does not match (R166, R184) -/
  | badCrc
  /-- a good frame -/
  | good (frame : φ)
  deriving DecidableEq, Repr

/-- The lead byte of a command frame (R165). -/
abbrev plLead : Byte := 0x96#8

/-- The lead byte of a reply frame (R171). -/
abbrev plReplyLead : Byte := 0x69#8

/-- The sync byte of both directions of the media link (R183, 11.5). -/
abbrev mlSync : Byte := 0xC3#8

/-- The good property line frame that the bytes after a lead byte spell (11.2): address in bits 15..6 and kind in bits
5..0 of the first two bytes, then the count, the body and the check. -/
def plFrameOf (taken : List Byte) : PlFrame :=
  let word := field taken 0 2
  ⟨BitVec.ofNat 10 (word / 64), BitVec.ofNat 6 word, (taken.drop 3).take (field taken 2 1)⟩

/-- One character at the property line's receiver (R165). The frame is complete at its second check byte; its check runs
over every byte after the lead byte, and over bytes followed by their check the computation gives 0 (R166). -/
def plRxTake (rx : Rx) (c : Byte) : Rx × RxEvent PlFrame :=
  match rx with
  | .hunting => if c = plLead then (.assembling [], .quiet) else (.hunting, .quiet)
  | .assembling taken =>
    let now := taken ++ [c]
    if now.length < 3 then (.assembling now, .quiet)
    else if field now 2 1 > plBodyLimit then (.hunting, .tooLong)
    else if now.length < field now 2 1 + 5 then (.assembling now, .quiet)
    else if crc16 now = 0 then (.hunting, .good (plFrameOf now))
    else (.hunting, .badCrc)

/-- The good media link frame that the bytes after a sync byte spell (11.5): length, kind, tag, body, check. -/
def mlFrameOf (taken : List Byte) : MlFrame :=
  ⟨BitVec.ofNat 8 (field taken 1 1), BitVec.ofNat 8 (field taken 2 1), (taken.drop 3).take (field taken 0 1)⟩

/-- One character at the media link's receiver (R183): a length above 120 is found as the length byte arrives. -/
def mlRxTake (rx : Rx) (c : Byte) : Rx × RxEvent MlFrame :=
  match rx with
  | .hunting => if c = mlSync then (.assembling [], .quiet) else (.hunting, .quiet)
  | .assembling taken =>
    let now := taken ++ [c]
    if field now 0 1 > mlBodyLimit then (.hunting, .tooLong)
    else if now.length < field now 0 1 + 5 then (.assembling now, .quiet)
    else if crc16 now = 0 then (.hunting, .good (mlFrameOf now))
    else (.hunting, .badCrc)

/-- The events a run of characters brings a receiver to, the quiet ones left out, and its state after them. -/
def rxRun {φ : Type} (take : Rx → Byte → Rx × RxEvent φ) : Rx → List Byte → Rx × List (RxEvent φ)
  | rx, [] => (rx, [])
  | rx, c :: cs =>
    let (rx1, e) := take rx c
    let (rx2, es) := rxRun take rx1 cs
    match e with
    | .quiet => (rx2, es)
    | e => (rx2, e :: es)

/-- The bytes of a command frame after its lead byte and before its check (11.2). -/
def plFrameContent (f : PlFrame) : List Byte :=
  beBytes 2 (f.address.toNat * 64 + f.kind.toNat) ++ beBytes 1 f.body.length ++ f.body

/-- The characters of a command frame on the wire (11.2). -/
def plFrameBytes (f : PlFrame) : List Byte :=
  plLead :: (plFrameContent f ++ crcBytes (plFrameContent f))

/-- The bytes of a request frame after its sync byte and before its check (11.5). -/
def mlFrameContent (f : MlFrame) : List Byte :=
  beBytes 1 f.body.length ++ [f.kind, f.tag] ++ f.body

/-- The characters of a request frame on the wire (11.5). -/
def mlFrameBytes (f : MlFrame) : List Byte :=
  mlSync :: (mlFrameContent f ++ crcBytes (mlFrameContent f))

end Sys2Proof.Machine
end

