-- ==== Sys2Proof/Machine/Records.lean ====
section
/-! DEFINITION. The records the blocks of the part hold, and the contents of its cells, replies and notices. -/

namespace Sys2Proof.Machine

/-! ### Ratings and services -/

/-- Four values always in the order age, violence, language, sexual content (00_scope, Ratings). -/
structure Places (α : Type) where
  age : α
  violence : α
  language : α
  sexual : α
  deriving DecidableEq, Repr

/-- A rating or a ceiling quad; 15 in a rating means unrated, 15 in a ceiling sets no limit (R68, R70). -/
abbrev Rating := Places Nat

/-- The blocked mask of the rating compare (R70). -/
abbrev Mask := Places Bool

/-- A service's kind with the fields an entry of that kind holds; the other kinds' fields are absent (R1). -/
inductive Terms where
  | free
  | package (number : Nat)
  | film (priceCode : Fin 32) (previewSeconds : Nat)
  | event (priceCode : Fin 32) (previewSeconds : Nat) (start : Nat) (stop : Nat)
  deriving DecidableEq, Repr

/-- A line-up entry (R1). -/
structure LineupEntry where
  service : Nat
  adult : Bool
  keySlot : Option (Fin 16)
  rating : Rating
  terms : Terms
  deriving DecidableEq, Repr

/-- The staging state; the staging generation has a meaning outside IDLE alone (section 1.3). -/
inductive Staging where
  | idle
  | filling (generation : Nat)
  | overfull (generation : Nat)
  deriving DecidableEq, Repr

/-- The Line-up Table: the active table (R2) and the staging machine (section 1.3). -/
structure LineupTable where
  active : List LineupEntry
  generation : Nat
  staging : Staging
  standby : List LineupEntry
  fault : Bool
  deriving DecidableEq, Repr

/-- One entry of the Price Table (R16). -/
structure PriceEntry where
  base : Nat
  hours : Nat
  allowance : Nat
  grace : Nat
  loaded : Bool
  deriving DecidableEq, Repr

/-! ### Keys and cells -/

/-- Where a key half stands in its slot's changeover (R20). -/
inductive HalfState where
  | empty
  | staged
  | live
  | spent
  deriving DecidableEq, Repr

/-- A key half (R20). -/
structure KeyHalf where
  state : HalfState
  word : ControlWord
  epoch : BitVec 6
  validUntil : Nat
  deriving DecidableEq, Repr

/-- A key slot: its even and its odd half (R20). -/
structure KeySlot where
  even : KeyHalf
  odd : KeyHalf
  deriving DecidableEq, Repr

/-- The kind of a cell, numbered as the header numbers it (R28, 11.1). -/
inductive CellKind where
  | clear
  | even
  | odd
  | rating
  deriving DecidableEq, Repr

/-- A cell: the header's four fields and the payload (R28). -/
structure Cell where
  service : BitVec 12
  kind : CellKind
  continuity : BitVec 4
  epoch : BitVec 6
  payload : List Byte
  deriving DecidableEq, Repr

/-! ### Lanes and the lock -/

/-- The check of admission that a BLANK lane failed (R42, R47). -/
inductive BlankReason where
  | shutdown
  | unknownService
  | vacant
  | adultBarred
  | locked
  | notEntitled
  | offAir
  | seatWait
  | purchaseNeeded
  deriving DecidableEq, Repr

/-- A lane's state; the blank reason is present in BLANK alone (R42). -/
inductive LaneState where
  | off
  | opened
  | preview
  | blank (reason : BlankReason)
  deriving DecidableEq, Repr

/-- A lane's seat standing (R42). -/
inductive Standing where
  | none
  | holding
  | waiting
  deriving DecidableEq, Repr

/-- The lane record (R42). -/
structure Lane where
  tuned : Option Nat
  state : LaneState
  keyMiss : Bool
  rating : Rating
  shutdown : Bool
  previewEnd : Option Nat
  standing : Standing
  deriving DecidableEq, Repr

/-- A screen's unlock record (R79). -/
structure Unlock where
  service : Nat
  stop : Nat
  deriving DecidableEq, Repr

/-- The Lock Unit: ceilings (R68), the PIN record (R73) and the unlocks (R79). -/
structure LockUnit where
  ceilings : Vector Rating 4
  pin : Option Nat
  failures : Nat
  lockout : Bool
  lockoutEnd : Option Nat
  unlocks : Vector (Option Unlock) 4
  deriving DecidableEq, Repr

/-! ### The room, its rentals and its charges -/

/-- The stay state (R89). -/
inductive Occupancy where
  | vacant
  | occupied
  | closing
  deriving DecidableEq, Repr

/-- The terms of a stay, all changeable by ROOM_UPDATE (R88, R98). -/
structure StayTerms where
  packages : BitVec 16
  adult : Bool
  spendLimit : Nat
  cap : Nat
  capReset : Nat
  rateFactor : Nat
  tax : Nat
  pinOnPurchase : Bool
  rateCount : Nat
  rateWindow : Nat
  unlockHold : Nat
  deriving DecidableEq, Repr

/-- The start and end of a running cap period (R100). -/
structure CapWindow where
  start : Nat
  stop : Nat
  deriving DecidableEq, Repr

/-- The Room Record (R88). A cap period that is pending has no window. -/
structure RoomRecord where
  address : Nat
  occupancy : Occupancy
  session : Nat
  terms : StayTerms
  spend : Nat
  period : Option CapWindow
  billed : Nat
  history : List Nat
  previewUsed : List Nat
  retentionLost : Bool
  deriving DecidableEq, Repr

/-- The kind of the service a rental entitles, as at purchase (R110). -/
inductive RentalKind where
  | film
  | event
  deriving DecidableEq, Repr

/-- A rental (R110). The seat set is kept in screen order, the waiting list oldest first. -/
structure Rental where
  index : Fin 8
  service : Nat
  kind : RentalKind
  session : Nat
  charge : Option Nat
  amount : Nat
  capped : Bool
  waived : Bool
  start : Nat
  stop : Nat
  allowance : Nat
  grace : Nat
  viewed : Nat
  seats : List Screen
  waiting : List Screen
  deriving DecidableEq, Repr

/-- A queue entry's kind; refers-to is present in a CREDIT alone (R144). -/
inductive ChargeKind where
  | charge
  | credit (refersTo : Nat)
  deriving DecidableEq, Repr

/-- Where a queue entry stands in the folio exchange (R144). -/
inductive ChargeState where
  | waiting
  | offered
  | declined
  deriving DecidableEq, Repr

/-- A charge or credit entry (R144). -/
structure QueueEntry where
  kind : ChargeKind
  number : Nat
  session : Nat
  service : Nat
  amount : Nat
  tax : Nat
  stamp : Nat
  state : ChargeState
  deriving DecidableEq, Repr

/-- The Charge Queue, head first, and the next charge number (R145, R146). -/
structure ChargeQueue where
  entries : List QueueEntry
  next : Nat
  deriving DecidableEq, Repr

/-! ### Clocks and starts -/

/-- The Clock Unit: the room clock (R90) and the run-second count (R91). -/
structure ClockUnit where
  isSet : Bool
  count : Nat
  run : Nat
  deriving DecidableEq, Repr

/-- How the last start found the retention indicator (R187). -/
inductive StartKind where
  | warm
  | cold
  deriving DecidableEq, Repr

/-- What the START notice tells the host (R197). -/
inductive Origin where
  | warm
  | cold
  | restart
  deriving DecidableEq, Repr

/-- How a TIME_SET moved the clock (R176). -/
inductive Jump where
  | first
  | forward
  | backward
  | none
  deriving DecidableEq, Repr

/-! ### The property line -/

/-- The latched reply flags (R172). -/
structure Latched where
  messageError : Bool
  broadcastSeen : Bool
  keyRefused : Bool
  lineupRefused : Bool
  deriving DecidableEq, Repr

/-- The answer that concerns only the reply it appears in (section 8.3, R173). -/
inductive FolioAnswer where
  | none
  | stale
  | notHead
  | notHeld
  deriving DecidableEq, Repr

/-- The status flags of a reply (R172, R173). -/
structure ReplyFlags where
  latched : Latched
  attention : Bool
  billingHeld : Bool
  retentionLost : Bool
  answer : FolioAnswer
  deriving DecidableEq, Repr

/-- A reply frame of the room (R171). -/
structure PlReply where
  address : Nat
  flags : ReplyFlags
  occupancy : Occupancy
  session : Nat
  queueLength : Nat
  generation : Nat
  entry : Option QueueEntry
  deriving DecidableEq, Repr

/-- Where the reply to an addressed command stands: built and not yet driven, or being driven with PLDE asserted (R163, R170). -/
inductive ReplyPhase where
  | none
  | built (reply : PlReply)
  | driving (reply : PlReply)
  deriving DecidableEq, Repr

/-- The Property Line Interface (R165, R172, R179, R181). -/
structure PropertyLine where
  rx : Rx
  latched : Latched
  up : Bool
  silence : Nat
  reply : ReplyPhase
  deriving DecidableEq, Repr

/-! ### Notices -/

/-- The twelve pairs of a notice's kind and source (R189). -/
inductive NoticePair where
  | lane (screen : Screen)
  | rentals
  | billing
  | room
  | pin
  | line
  | clock
  | lineup
  | start
  deriving DecidableEq, Repr

/-- A notice mode (R191). -/
inductive NoticeMode where
  | every
  | first
  | faultOnly
  | off
  deriving DecidableEq, Repr

/-- The changeable notice modes; START, BILLING and ROOM are EVERY and hold no mode (R191). -/
structure Modes where
  lane : NoticeMode
  rentals : NoticeMode
  pin : NoticeMode
  line : NoticeMode
  clock : NoticeMode
  lineup : NoticeMode
  deriving DecidableEq, Repr

/-- What a report shows of a lane's seat: the rental's index, and for a waiting lane its place, 1 being the oldest (R62). -/
inductive SeatView where
  | holding (index : Fin 8)
  | waiting (index : Fin 8) (place : Nat)
  deriving DecidableEq, Repr

/-- The snapshot of a LANE notice (R62). -/
structure LaneView where
  screen : Screen
  tuned : Option Nat
  state : LaneState
  keyMiss : Bool
  mask : Option Mask
  seat : Option SeatView
  previewLeft : Option Nat
  deriving DecidableEq, Repr

/-- One rental of a RENTALS snapshot (R129). -/
structure RentalBrief where
  index : Fin 8
  service : Nat
  stop : Nat
  deriving DecidableEq, Repr

/-- What a BILLING snapshot shows of the DECLINED head (R156). -/
structure HeldView where
  number : Nat
  session : Nat
  service : Nat
  amount : Nat
  deriving DecidableEq, Repr

/-- The snapshot of a ROOM notice (R107). -/
structure RoomView where
  address : Nat
  occupancy : Occupancy
  session : Nat
  packages : BitVec 16
  adult : Bool
  spendLimit : Nat
  spend : Nat
  cap : Nat
  billed : Nat
  periodEnd : Option Nat
  retentionLost : Bool
  deriving DecidableEq, Repr

/-- The snapshot of a PIN notice (R78). -/
structure PinView where
  isSet : Bool
  failures : Nat
  lockout : Bool
  secondsLeft : Option Nat
  deriving DecidableEq, Repr

/-- The snapshot of a START notice (R197). -/
structure StartView where
  origin : Origin
  retentionLost : Bool
  address : Nat
  occupancy : Occupancy
  session : Nat
  queueLength : Nat
  held : Bool
  rentals : Nat
  pinSet : Bool
  lineUp : Bool
  generation : Nat
  deriving DecidableEq, Repr

/-- A notice's snapshot, by its kind (R190). -/
inductive Snapshot where
  | lane (view : LaneView)
  | rentals (list : List RentalBrief)
  | billing (held : Option HeldView) (queueLength : Nat)
  | room (view : RoomView)
  | pin (view : PinView)
  | line (up : Bool) (run : Nat)
  | clock (time : Nat) (jump : Jump)
  | lineup (generation : Nat) (entries : Nat)
  | start (view : StartView)
  deriving DecidableEq, Repr

/-- A queued notice (R189). -/
structure Notice where
  pair : NoticePair
  snapshot : Snapshot
  raises : Nat
  deriving DecidableEq, Repr

/-! ### The media link -/

/-- The result codes, in the order that numbers them (11.5). -/
inductive Result where
  | ok
  | already
  | overrun
  | badFrame
  | unknownRequest
  | badLength
  | badScreen
  | unknownService
  | noService
  | notOccupied
  | notVacant
  | clockUnset
  | notForSale
  | outsideWindow
  | priceUnknown
  | billingHeld
  | rateLimit
  | pinRequired
  | pinWrong
  | pinLocked
  | adultBarred
  | contentLocked
  | creditFull
  | spendLimit
  | rentalsFull
  | noRental
  | cancelTooLate
  | queueFull
  deriving DecidableEq, Repr

/-- The reply to IDENTIFY but for its constants (R187). -/
structure IdentifyReport where
  lastStart : StartKind
  run : Nat
  deriving DecidableEq, Repr

/-- The reply to STATUS (R188). -/
structure StatusReport where
  address : Nat
  occupancy : Occupancy
  session : Nat
  retentionLost : Bool
  terms : StayTerms
  spend : Nat
  period : Option CapWindow
  billed : Nat
  instants : Nat
  recent : Nat
  previewUsed : List Nat
  pin : PinView
  ceilings : Vector Rating 4
  clockSet : Bool
  clock : Nat
  run : Nat
  generation : Nat
  entries : Nat
  staging : Staging
  lineUp : Bool
  silence : Nat
  rentals : Nat
  queueLength : Nat
  held : Bool
  notices : Nat
  deriving DecidableEq, Repr

/-- The screen report (R63). -/
structure ScreenReport where
  screen : Screen
  tuned : Option Nat
  state : LaneState
  keyMiss : Bool
  rating : Rating
  mask : Option Mask
  shutdown : Bool
  seat : Option SeatView
  previewLeft : Option Nat
  unlock : Option Unlock
  deriving DecidableEq, Repr

/-- The body of a media link reply, by its request (R116, R126, R128, R161, R187, R188, R192, R193, R15, R63, R106). -/
inductive ReplyBody where
  | none
  | identify (report : IdentifyReport)
  | status (report : StatusReport)
  | screen (report : ScreenReport)
  /-- the active generation alone, or with the entry and the price entry it names -/
  | lineup (generation : Nat) (entry : Option LineupEntry) (price : Option PriceEntry)
  | purchase (index : Fin 8) (amount : Nat) (capped : Bool) (charge : Option Nat) (stop : Nat)
  | cancel (service : Nat) (amount : Nat) (credit : Option Nat)
  | rentals (list : List Rental)
  | charges (entries : List QueueEntry) (held : Bool) (next : Nat)
  | notices (list : List Notice)
  | modes (modes : Modes)
  | address (address : Nat)
  deriving DecidableEq, Repr

/-- A frame of the part on the media link: a reply or a frame-level answer (R185, R186). -/
structure MlReply where
  kind : Byte
  tag : Byte
  result : Result
  body : ReplyBody
  deriving DecidableEq, Repr

/-- The media link's transmitter (R185). -/
inductive MlTx where
  | idle
  | sending (reply : MlReply)
  deriving DecidableEq, Repr

/-- The Media Link Interface (R183, R184, R185, R189, R191). `armed` is indexed by the pair (NoticePair.index). -/
structure MediaLink where
  rx : Rx
  buffer : List MlFrame
  answers : List MlReply
  tx : MlTx
  notices : List Notice
  modes : Modes
  armed : Vector Bool 12
  deriving DecidableEq, Repr

end Sys2Proof.Machine
end

