-- ==== Sys2Proof/Machine/Flags.lean ====
section
/-! DEFINITION. The flags and masks the part computes: the blocked mask (R70), the faults of FAULT_ONLY (R61), the status
flags of a reply (R172, R173) and their word (11.3). -/

namespace Sys2Proof.Machine

/-- The rating compare: the places where the rating is greater than the ceiling (R70). -/
def ratingCompare (rating ceilings : Rating) : Mask :=
  ⟨decide (rating.age > ceilings.age), decide (rating.violence > ceilings.violence),
    decide (rating.language > ceilings.language), decide (rating.sexual > ceilings.sexual)⟩

/-- A screen is rating-blocked when any place of the mask is yes (R70). -/
def Places.any (m : Mask) : Bool := m.age || m.violence || m.language || m.sexual

/-- Whether a lane state is BLANK. -/
def LaneState.isBlank : LaneState → Bool
  | .blank _ => true
  | _ => false

/-- A change into BLANK from OFF, OPEN or PREVIEW is a fault for FAULT_ONLY (R61). -/
def blankFault (old new : LaneState) : Bool := new.isBlank && !old.isBlank

/-- The sixteen status flag bits of a reply; bits 15..10 are 0 (11.3). -/
def ReplyFlags.bits (f : ReplyFlags) : List Bool :=
  [f.latched.messageError, f.latched.broadcastSeen, f.latched.keyRefused, f.latched.lineupRefused,
    f.attention, f.billingHeld, f.retentionLost,
    f.answer == .stale, f.answer == .notHead, f.answer == .notHeld]

/-- The number whose bit n is the n-th of the list. -/
def bitsNat : List Bool → Nat
  | [] => 0
  | b :: bs => b.toNat + 2 * bitsNat bs

/-- The status flags of a reply as a word (11.3). -/
def ReplyFlags.word (f : ReplyFlags) : BitVec 16 := BitVec.ofNat 16 (bitsNat f.bits)

end Sys2Proof.Machine
end

