-- ==== Sys2Proof/Machine/Cold.lean ====
section
/-! DEFINITION. What each block holds at a start (R3, R4, R19, R41, R64, R181, R196), and what the blocks of the retention
domain hold at a cold one (R109). -/

namespace Sys2Proof.Machine

/-- A quad of one value, as 15, 15, 15, 15 (R64, R68). -/
def Places.all {α : Type} (v : α) : Places α := ⟨v, v, v, v⟩

/-- The line-up tables at every start (R3, R4). -/
def LineupTable.atStart : LineupTable := ⟨[], 0, .idle, [], false⟩

/-- A price entry at every start (R19). -/
def PriceEntry.atStart : PriceEntry := ⟨0, 1, 1, 0, false⟩

/-- A key half that holds no key (R20), as at every start (R41). -/
def KeyHalf.noKey : KeyHalf := ⟨.empty, 0, 0, 0⟩

/-- A lane at every start (R64). -/
def Lane.atStart : Lane := ⟨none, .off, false, .all 15, false, none, .none⟩

/-- The Lock Unit at a cold start (R68, R73, R79). -/
def LockUnit.cold : LockUnit :=
  ⟨Vector.replicate 4 (.all 15), none, 0, false, none, Vector.replicate 4 none⟩

/-- The terms of the Room Record at a cold start (R88). -/
def StayTerms.cold : StayTerms :=
  { packages := 0, adult := false, spendLimit := 0, cap := 0, capReset := 0, rateFactor := 1000, tax := 0,
    pinOnPurchase := false, rateCount := 4, rateWindow := 3600, unlockHold := 7200 }

/-- The Room Record at a cold start (R88, R109). -/
def RoomRecord.cold : RoomRecord :=
  { address := 0, occupancy := .vacant, session := 0, terms := .cold, spend := 0, period := none, billed := 0,
    history := [], previewUsed := [], retentionLost := true }

/-- The Charge Queue at a cold start (R162). -/
def ChargeQueue.cold : ChargeQueue := ⟨[], 1⟩

/-- The Clock Unit at a cold start (R90, R91). -/
def ClockUnit.cold : ClockUnit := ⟨false, 0, 0⟩

/-- No flag latched (R172). -/
def Latched.clear : Latched := ⟨false, false, false, false⟩

/-- The Property Line Interface at every start (R181). -/
def PropertyLine.atStart : PropertyLine := ⟨.hunting, .clear, false, 300, .none⟩

/-- The notice modes at every start and host RESTART (R195, R196). -/
def Modes.allEvery : Modes := ⟨.every, .every, .every, .every, .every, .every⟩

/-- The Media Link Interface at every start, before the START notice is raised (R196). -/
def MediaLink.atStart : MediaLink := ⟨.hunting, [], [], .idle, [], .allEvery, Vector.replicate 12 true⟩

end Sys2Proof.Machine
end

