-- ==== Sys2Proof/Machine/State.lean ====
section
/-! DEFINITION. The state of the part, the reasons a step can stop, and the state after reset. -/

namespace Sys2Proof.Machine

/-- The reasons the part can stop. There is none: the spec gives no event after which the part does not go on, so no
command raises a fault (log 32, DEDUCED). Safe: every outcome of a command is a next state that the rules give. -/
inductive Fault where
  deriving DecidableEq, Repr

/-- The reasons a command has no meaning here. -/
inductive Refusal where
  /-- raised by an arm of exec whose command is not modelled; no arm raises it. Safe: nothing is claimed of it. -/
  | notModelled (mnemonic : String)
  deriving DecidableEq, Repr

/-- Everything the part holds, by the block that owns it (00_scope, Block overview), and the commands that wait. -/
structure State where
  /-- the core supply is present and the part has been started (R108) -/
  powered : Bool
  /-- how the last start found the retention indicator (R187) -/
  lastStart : StartKind
  /-- Clock Unit -/
  clock : ClockUnit
  /-- Line-up Table -/
  lineup : LineupTable
  /-- Price Table, by price code -/
  prices : Vector PriceEntry 32
  /-- Key Store, by slot -/
  keys : Vector KeySlot 16
  /-- Stream Unit: the lane records -/
  lanes : Vector Lane 4
  /-- Stream Unit: the cell last placed on each stream output since the start (R43) -/
  outs : Vector (Option Cell) 4
  /-- Lock Unit -/
  lock : LockUnit
  /-- Room Record -/
  room : RoomRecord
  /-- Rental List, in purchase order -/
  rentals : List Rental
  /-- Charge Queue -/
  charges : ChargeQueue
  /-- Property Line Interface -/
  line : PropertyLine
  /-- Media Link Interface -/
  link : MediaLink
  /-- THE MODEL'S OWN: the commands that wait, first in, first out (log 1, DESIGN CHOICE) -/
  pending : List Instr
  deriving DecidableEq, Repr

/-- The START notice of a cold start (R197). -/
def coldStartNotice : Notice :=
  ⟨.start, .start ⟨.cold, true, 0, .vacant, 0, 0, false, 0, false, false, 0⟩, 1⟩

/-- The part right after a cold start (R109), with its START notice raised (R196, R197) and no command waiting (log 2, DESIGN CHOICE). -/
def State.reset : State :=
  { powered := true
    lastStart := .cold
    clock := .cold
    lineup := .atStart
    prices := Vector.replicate 32 .atStart
    keys := Vector.replicate 16 ⟨.noKey, .noKey⟩
    lanes := Vector.replicate 4 .atStart
    outs := Vector.replicate 4 none
    lock := .cold
    room := .cold
    rentals := []
    charges := .cold
    line := .atStart
    link := { MediaLink.atStart with notices := [coldStartNotice] }
    pending := [] }

end Sys2Proof.Machine
end

