-- ==== Sys2Proof/Machine/Ops.lean ====
section
/-! DEFINITION. The named operations over the state that every block uses: reading and writing a lane, an unlock, a
key half and a rental, the snapshots each block supplies, and raising a notice. -/

namespace Sys2Proof.Machine

/-! ### Lanes, ceilings, unlocks and key halves -/

/-- The record of lane n (R42). -/
def State.lane (s : State) (n : Screen) : Lane := s.lanes.get n

/-- The state with lane n's record replaced. -/
def State.setLane (s : State) (n : Screen) (l : Lane) : State := { s with lanes := s.lanes.set n.val l n.isLt }

/-- The cell that stands on stream output n, or none before the first cell since the start. -/
def State.out (s : State) (n : Screen) : Option Cell := s.outs.get n

/-- The state with a cell placed on stream output n (R43). -/
def State.place (s : State) (n : Screen) (c : Cell) : State := { s with outs := s.outs.set n.val (some c) n.isLt }

/-- Screen n's ceiling quad (R68). -/
def State.ceiling (s : State) (n : Screen) : Rating := s.lock.ceilings.get n

/-- Screen n's unlock (R79). -/
def State.unlockOf (s : State) (n : Screen) : Option Unlock := s.lock.unlocks.get n

/-- The state with screen n's unlock record replaced. -/
def State.setUnlock (s : State) (n : Screen) (u : Option Unlock) : State :=
  { s with lock := { s.lock with unlocks := s.lock.unlocks.set n.val u n.isLt } }

/-- The half of a slot with a parity (R20). -/
def KeySlot.half (k : KeySlot) : Parity → KeyHalf
  | .even => k.even
  | .odd => k.odd

/-- The slot with one half replaced. -/
def KeySlot.setHalf (k : KeySlot) : Parity → KeyHalf → KeySlot
  | .even, h => { k with even := h }
  | .odd, h => { k with odd := h }

/-- The other parity of a slot. -/
def partner : Parity → Parity
  | .even => .odd
  | .odd => .even

/-- A key half of the Key Store (R20). -/
def State.half (s : State) (slot : Fin 16) (p : Parity) : KeyHalf := (s.keys.get slot).half p

/-- The state with one key half replaced. -/
def State.setHalf (s : State) (slot : Fin 16) (p : Parity) (h : KeyHalf) : State :=
  { s with keys := s.keys.set slot.val ((s.keys.get slot).setHalf p h) slot.isLt }

/-! ### The line-up, the rentals and the queue -/

/-- The entry of a service in a table; a service is in the line-up exactly when the active table has one (R2). -/
def entryIn (table : List LineupEntry) (service : Nat) : Option LineupEntry :=
  table.find? (fun e => e.service == service)

/-- The active entry of a service (R2). -/
def State.entry (s : State) (service : Nat) : Option LineupEntry := entryIn s.lineup.active service

/-- The rental of a service; the list holds at most one (R112). -/
def State.rentalOf (s : State) (service : Nat) : Option Rental :=
  s.rentals.find? (fun r => r.service == service)

/-- The rental at an index (R111). -/
def State.rentalAt (s : State) (index : Fin 8) : Option Rental :=
  s.rentals.find? (fun r => r.index == index)

/-- The state with every rental of a service changed by `f`, in its place. -/
def State.mapRental (s : State) (service : Nat) (f : Rental → Rental) : State :=
  { s with rentals := s.rentals.map (fun r => if r.service == service then f r else r) }

/-- The head of the Charge Queue (R146). -/
def State.queueHead (s : State) : Option QueueEntry := s.charges.entries.head?

/-- The DECLINED head, while the billing hold is in force (R156). -/
def State.heldHead (s : State) : Option QueueEntry :=
  match s.queueHead with
  | some e => if e.state = .declined then some e else none
  | none => none

/-- The billing hold is in force while the queue's head is DECLINED (R156). -/
def State.held (s : State) : Bool := s.heldHead.isSome

/-- The queue's length (R146). -/
def State.queueLength (s : State) : Nat := s.charges.entries.length

/-- An end kept in run seconds: the present count plus a length, held at 4,294,967,295 (R91). -/
def State.runEnd (s : State) (length : Nat) : Nat := min (s.clock.run + length) maxCount

/-! ### Latched flags -/

/-- The state with one of the four reply flags latched (R172). -/
def State.latch (s : State) (f : Latched → Latched) : State :=
  { s with line := { s.line with latched := f s.line.latched } }

/-- MESSAGE_ERROR latched (R169). -/
def State.latchMessageError (s : State) : State := s.latch (fun l => { l with messageError := true })

/-- LINEUP_REFUSED latched (R11). -/
def State.latchLineupRefused (s : State) : State := s.latch (fun l => { l with lineupRefused := true })

/-- BROADCAST_SEEN latched (R168 step 5). -/
def State.latchBroadcastSeen (s : State) : State := s.latch (fun l => { l with broadcastSeen := true })

/-- KEY_REFUSED latched (R23). -/
def State.latchKeyRefused (s : State) : State := s.latch (fun l => { l with keyRefused := true })

/-! ### Snapshots and reports -/

/-- The 1-based place of a lane in a waiting list, 1 being the oldest (R62). -/
def placeIn (waiting : List Screen) (n : Screen) : Nat := waiting.idxOf n + 1

/-- What a report shows of lane n's seat: present when the standing is HOLDING or WAITING (R62; log 36, DESIGN CHOICE). -/
def State.seatView (s : State) (n : Screen) : Option SeatView :=
  match (s.lane n).tuned with
  | none => none
  | some service =>
    match s.rentalOf service with
    | none => none
    | some r =>
      match (s.lane n).standing with
      | .none => none
      | .holding => some (.holding r.index)
      | .waiting => some (.waiting r.index (placeIn r.waiting n))

/-- The preview seconds left, in PREVIEW: the preview end less the run-second count (R62). -/
def State.previewLeft (s : State) (n : Screen) : Option Nat :=
  if (s.lane n).state = .preview then (s.lane n).previewEnd.map (· - s.clock.run) else none

/-- The blocked mask of screen n made now: the lane's current rating against the screen's ceilings (R70). -/
def State.blockedMask (s : State) (n : Screen) : Mask := ratingCompare (s.lane n).rating (s.ceiling n)

/-- The snapshot of a LANE notice (R62). -/
def State.laneView (s : State) (n : Screen) : LaneView :=
  { screen := n
    tuned := (s.lane n).tuned
    state := (s.lane n).state
    keyMiss := (s.lane n).keyMiss
    mask := if (s.lane n).state = .blank .locked then some (s.blockedMask n) else none
    seat := s.seatView n
    previewLeft := s.previewLeft n }

/-- The screen report (R63). -/
def State.screenReport (s : State) (n : Screen) : ScreenReport :=
  { screen := n
    tuned := (s.lane n).tuned
    state := (s.lane n).state
    keyMiss := (s.lane n).keyMiss
    rating := (s.lane n).rating
    mask := if (s.lane n).tuned.isSome then some (s.blockedMask n) else none
    shutdown := (s.lane n).shutdown
    seat := s.seatView n
    previewLeft := s.previewLeft n
    unlock := (s.unlockOf n).map (fun u => ⟨u.service, u.stop - s.clock.run⟩) }

/-- The snapshot of a RENTALS notice (R129). -/
def State.rentalsView (s : State) : List RentalBrief := s.rentals.map (fun r => ⟨r.index, r.service, r.stop⟩)

/-- The snapshot of a BILLING notice (R156). -/
def State.billingView (s : State) : Snapshot :=
  .billing (s.heldHead.map (fun e => ⟨e.number, e.session, e.service, e.amount⟩)) s.queueLength

/-- The snapshot of a ROOM notice (R107). -/
def State.roomView (s : State) : RoomView :=
  { address := s.room.address
    occupancy := s.room.occupancy
    session := s.room.session
    packages := s.room.terms.packages
    adult := s.room.terms.adult
    spendLimit := s.room.terms.spendLimit
    spend := s.room.spend
    cap := s.room.terms.cap
    billed := s.room.billed
    periodEnd := s.room.period.map (·.stop)
    retentionLost := s.room.retentionLost }

/-- The snapshot of a PIN notice (R78); the seconds left are present while the lockout flag is set. -/
def State.pinView (s : State) : PinView :=
  { isSet := s.lock.pin.isSome
    failures := s.lock.failures
    lockout := s.lock.lockout
    secondsLeft := if s.lock.lockout then s.lock.lockoutEnd.map (· - s.clock.run) else none }

/-- The snapshot of a START notice (R197). -/
def State.startView (s : State) (origin : Origin) : StartView :=
  { origin := origin
    retentionLost := s.room.retentionLost
    address := s.room.address
    occupancy := s.room.occupancy
    session := s.room.session
    queueLength := s.queueLength
    held := s.held
    rentals := s.rentals.length
    pinSet := s.lock.pin.isSome
    lineUp := s.line.up
    generation := s.lineup.generation }

/-! ### Notices -/

/-- The place of a pair among the twelve (R189). -/
def NoticePair.index : NoticePair → Fin 12
  | .lane n => ⟨n.val, by omega⟩
  | .rentals => 4
  | .billing => 5
  | .room => 6
  | .pin => 7
  | .line => 8
  | .clock => 9
  | .lineup => 10
  | .start => 11

/-- The mode of a pair's kind; START, BILLING and ROOM are EVERY (R191). -/
def Modes.of (m : Modes) : NoticePair → NoticeMode
  | .lane _ => m.lane
  | .rentals => m.rentals
  | .billing => .every
  | .room => .every
  | .pin => m.pin
  | .line => m.line
  | .clock => m.clock
  | .lineup => m.lineup
  | .start => .every

/-- Whether the mode of a raised notice's kind files it (R191). -/
def MediaLink.files (l : MediaLink) (p : NoticePair) (fault : Bool) : Bool :=
  match l.modes.of p with
  | .every => true
  | .first => l.armed.get p.index
  | .faultOnly => fault
  | .off => false

/-- The armed marks after a raised notice: filing under FIRST disarms the pair (R191, log 20, DEDUCED). -/
def MediaLink.armedAfter (l : MediaLink) (p : NoticePair) (fault : Bool) : Vector Bool 12 :=
  if l.modes.of p = .first ∧ l.files p fault then l.armed.set p.index.val false p.index.isLt else l.armed

/-- A queued notice of the same pair takes the new snapshot in its place and one more in its raise count (R189). -/
def Notice.coalesce (n : Notice) (p : NoticePair) (snapshot : Snapshot) : Notice :=
  if n.pair = p then { n with snapshot := snapshot, raises := min (n.raises + 1) maxRaises } else n

/-- The notice queue after a raised notice: coalesced into a queued one of its pair, filed at the end, or neither (R189,
R191). -/
def MediaLink.noticesAfter (l : MediaLink) (p : NoticePair) (snapshot : Snapshot) (fault : Bool) : List Notice :=
  if l.notices.any (fun n => n.pair = p) then l.notices.map (fun n => n.coalesce p snapshot)
  else if l.files p fault then l.notices ++ [⟨p, snapshot, 1⟩]
  else l.notices

/-- A block raises a notice (R189 to R191). -/
def State.raise (s : State) (p : NoticePair) (snapshot : Snapshot) (fault : Bool) : State :=
  { s with link := { s.link with notices := s.link.noticesAfter p snapshot fault, armed := s.link.armedAfter p fault } }

/-- Lane n reports a change (R61, R62). -/
def State.raiseLane (s : State) (n : Screen) (fault : Bool) : State := s.raise (.lane n) (.lane (s.laneView n)) fault

/-- The Rental List reports a change; never a fault (R129). -/
def State.raiseRentals (s : State) : State := s.raise .rentals (.rentals s.rentalsView) false

/-- The Charge Queue reports the beginning of a hold, a fault, or its end (R156). -/
def State.raiseBilling (s : State) (fault : Bool) : State := s.raise .billing s.billingView fault

/-- The Room Record reports a change (R107). -/
def State.raiseRoom (s : State) : State := s.raise .room (.room s.roomView) false

/-- The Lock Unit reports a change of the PIN record; the beginning of a lockout is a fault (R78). -/
def State.raisePin (s : State) (fault : Bool) : State := s.raise .pin (.pin s.pinView) fault

/-- The Property Line Interface reports a change of the line state; a change to DOWN is a fault (R180). -/
def State.raiseLine (s : State) : State := s.raise .line (.line s.line.up s.clock.run) (!s.line.up)

/-- The Line-up Table reports an accepted commit (R10). -/
def State.raiseLineup (s : State) : State :=
  s.raise .lineup (.lineup s.lineup.generation s.lineup.active.length) false

/-- MLATN is driven low while the notice queue holds one notice or more (R194); an unpowered part drives nothing (log 12, DESIGN CHOICE). -/
def State.mlatnLow (s : State) : Bool := s.powered && !s.link.notices.isEmpty

/-- PLDE is asserted while a reply is driven (R163); an unpowered part drives nothing (log 12, DESIGN CHOICE). -/
def State.plde (s : State) : Bool :=
  match s.line.reply with
  | .driving _ => s.powered
  | _ => false

end Sys2Proof.Machine
end

