-- ==== Sys2Proof/Machine/Lanes.lean ====
section
/-! DEFINITION. The Stream Unit's decisions: admission and what it gives up (R47 to R51), re-admission of several lanes
(R53), seats and their handing on (R55, R120), tuning (R45, R46), the preview-used list (R105) and the key-miss flag (R34). -/

namespace Sys2Proof.Machine

/-- A list held to a capacity: the oldest leave until one place is free, and the new one joins the end (R104, R105). -/
def pushBounded {α : Type} (capacity : Nat) (list : List α) (x : α) : List α :=
  list.drop (list.length + 1 - capacity) ++ [x]

/-- The preview-used list after a service is added: a service it holds keeps its place (R105). -/
def addUsed (list : List Nat) (service : Nat) : List Nat :=
  if list.contains service then list else pushBounded previewCapacity list service

/-- The state with a service added to the preview-used list (R105). -/
def State.addPreviewUsed (s : State) (service : Nat) : State :=
  { s with room := { s.room with previewUsed := addUsed s.room.previewUsed service } }

/-! ### The decision -/

/-- What admission decides for a lane (R47 to R50). -/
inductive Verdict where
  /-- no service is tuned -/
  | off
  /-- BLANK by a check that gives no seat -/
  | blank (reason : BlankReason)
  /-- OPEN on a FREE or PACKAGE service, which holds no seat -/
  | openFree
  /-- OPEN on the seat the lane holds -/
  | seatKeep
  /-- OPEN on a seat granted now -/
  | seatGrant
  /-- SEAT_WAIT, joining the end of the waiting list -/
  | waitJoin
  /-- SEAT_WAIT, in the place the lane has -/
  | waitKeep
  /-- the preview in progress goes on -/
  | previewKeep
  /-- a preview of so many seconds begins -/
  | previewStart (seconds : Nat)
  deriving DecidableEq, Repr

/-- The lock a screen's ceilings and the room PIN put on a rating and an adult flag, whatever unlock is held (R69 to R71). -/
def State.underLock (s : State) (n : Screen) (rating : Rating) (adult : Bool) : Bool :=
  (ratingCompare rating (s.ceiling n)).any || (adult && s.lock.pin.isSome)

/-- Whether a screen holds an unlock for a service (R71, R79). -/
def State.holdsUnlock (s : State) (n : Screen) (service : Nat) : Bool := (s.unlockOf n).any (fun u => u.service == service)

/-- The Lock Unit's verdict for a screen, a service, a rating and the entry's adult flag (R71). -/
def State.locked (s : State) (n : Screen) (service : Nat) (rating : Rating) (adult : Bool) : Bool :=
  s.underLock n rating adult && !s.holdsUnlock n service

/-- The room clock is SET and lies in [start, stop) (R48). -/
def ClockUnit.within (c : ClockUnit) (start stop : Nat) : Bool :=
  c.isSet && decide (start ≤ c.count) && decide (c.count < stop)

/-- Check 7 for a FILM, or for an EVENT on air, with or without a rental of the service (R49, R50). A lane whose preview ended
earlier is judged by R50 alone, so a service pushed out of the preview-used list since then may begin a new preview, also
at the later UNLOCK of R57's RATING row (log 44, DEDUCED). -/
def State.saleVerdict (s : State) (n : Screen) (service previewSeconds : Nat) : Verdict :=
  match s.rentalOf service with
  | some r =>
    match (s.lane n).standing with
    | .holding => .seatKeep
    | .none => if r.seats.length < r.allowance then .seatGrant else .waitJoin
    | .waiting => if r.seats.length < r.allowance then .seatGrant else .waitKeep
  | none =>
    if (s.lane n).state = .preview ∧ (s.lane n).previewEnd.isSome then .previewKeep
    else if 0 < previewSeconds ∧ ¬ s.room.previewUsed.contains service then .previewStart previewSeconds
    else .blank .purchaseNeeded

/-- Check 7, entitlement by the entry's kind (R48). -/
def State.entitlement (s : State) (n : Screen) (e : LineupEntry) : Verdict :=
  match e.terms with
  | .free => .openFree
  | .package number => if s.room.terms.packages.getLsbD number then .openFree else .blank .notEntitled
  | .film _ previewSeconds => s.saleVerdict n e.service previewSeconds
  | .event _ previewSeconds start stop =>
    if s.clock.within start stop then s.saleVerdict n e.service previewSeconds else .blank .offAir

/-- Whether an entry's kind is FREE. -/
def Terms.isFree : Terms → Bool
  | .free => true
  | _ => false

/-- Admission's decision: the ordered checks of R47. -/
def State.verdict (s : State) (n : Screen) : Verdict :=
  match (s.lane n).tuned with
  | none => .off
  | some service =>
    if (s.lane n).shutdown then .blank .shutdown
    else match s.entry service with
    | none => .blank .unknownService
    | some e =>
      if s.room.occupancy ≠ .occupied ∧ ¬ e.terms.isFree then .blank .vacant
      else if e.adult ∧ ¬ s.room.terms.adult then .blank .adultBarred
      else if s.locked n service (s.lane n).rating e.adult then .blank .locked
      else s.entitlement n e

/-! ### Seats -/

/-- A rental without a lane among its holders or waiters; the lanes behind it move up (R120). -/
def Rental.without (r : Rental) (n : Screen) : Rental :=
  { r with seats := r.seats.filter (· ≠ n), waiting := r.waiting.filter (· ≠ n) }

/-- A rental with a lane in its seat set, and no longer in its waiting list (R120; log 29, DESIGN CHOICE). -/
def Rental.seat (r : Rental) (n : Screen) : Rental :=
  { r with seats := screens.filter (fun m => m = n ∨ m ∈ r.seats), waiting := r.waiting.filter (· ≠ n) }

/-- A rental with a lane at the end of its waiting list (R120). -/
def Rental.join (r : Rental) (n : Screen) : Rental := { r with waiting := r.waiting ++ [n] }

/-- The rental of lane n's tuned service, changed. -/
def State.mapTunedRental (s : State) (n : Screen) (f : Rental → Rental) : State :=
  match (s.lane n).tuned with
  | none => s
  | some service => s.mapRental service f

/-- Lane n takes a state, a standing and a preview end; a change of state or blank reason raises its LANE notice (R51, R61). -/
def State.change (s : State) (n : Screen) (state : LaneState) (standing : Standing) (previewEnd : Option Nat) : State :=
  let s1 := s.setLane n { s.lane n with state := state, standing := standing, previewEnd := previewEnd }
  if state = (s.lane n).state then s1 else s1.raiseLane n (blankFault (s.lane n).state state)

/-- Lane n takes the outcome of an admission: its state, and what R51 makes it give up, but for handing the seat on. -/
def State.settle (s : State) (n : Screen) : Verdict → State
  | .off => (s.mapTunedRental n (·.without n)).change n .off .none none
  | .blank reason => (s.mapTunedRental n (·.without n)).change n (.blank reason) .none none
  | .openFree => (s.mapTunedRental n (·.without n)).change n .opened .none none
  | .seatKeep => s.change n .opened .holding none
  | .seatGrant => (s.mapTunedRental n (·.seat n)).change n .opened .holding none
  | .waitJoin => (s.mapTunedRental n (·.join n)).change n (.blank .seatWait) .waiting none
  | .waitKeep => s.change n (.blank .seatWait) .waiting none
  | .previewKeep => s
  | .previewStart seconds =>
    let s1 := (s.mapTunedRental n (·.without n)).change n .preview .none (some (s.runEnd seconds))
    match (s.lane n).tuned with
    | none => s1
    | some service => s1.addPreviewUsed service

/-- Whether an outcome leaves the lane without the seat it may have held (R51). -/
def Verdict.givesUpSeat : Verdict → Bool
  | .seatKeep | .seatGrant | .waitJoin | .waitKeep | .previewKeep => false
  | _ => true

/-- A freed seat of a service's rental is handed to the oldest waiter, which is re-admitted at once; a waiter that fails
an earlier check gives it up to the next (R55, R120). The list is the waiting list at the release. -/
def handOver (service : Nat) : List Screen → State → State
  | [], s => s
  | w :: rest, s =>
    let s1 := (s.mapRental service (·.seat w)).setLane w { s.lane w with standing := .holding }
    match s1.verdict w with
    | .seatKeep => s1.settle w .seatKeep
    | v => handOver service rest (s1.settle w v)

/-- The waiting list of a service's rental, empty where there is none. -/
def State.waitingOf (s : State) (service : Nat) : List Screen :=
  match s.rentalOf service with
  | some r => r.waiting
  | none => []

/-- The seat lane n held before an event, if it held one, is handed on. -/
def State.handOn (s : State) (before : Lane) : State :=
  match before.standing, before.tuned with
  | .holding, some service => handOver service (s.waitingOf service) s
  | _, _ => s

/-- Lane n takes an outcome, and a seat it gives up by it is handed on (R51, R55; log 14, DESIGN CHOICE). -/
def State.admitAs (s : State) (n : Screen) (v : Verdict) : State :=
  if v.givesUpSeat then (s.settle n v).handOn (s.lane n) else s.settle n v

/-- Admission of lane n (R47 to R51). -/
def State.admitLane (s : State) (n : Screen) : State := s.admitAs n (s.verdict n)

/-- Lanes re-admitted one at a time, in the order given (R53). -/
def State.admitEach (s : State) (order : List Screen) : State := order.foldl State.admitLane s

/-- Every lane re-admitted in screen order (R53). -/
def State.admitAll (s : State) : State := s.admitEach screens

/-- One lane re-admitted if it is tuned to a service. -/
def State.admitIfTuned (service : Nat) (s : State) (n : Screen) : State :=
  if (s.lane n).tuned = some service then s.admitLane n else s

/-- Every lane tuned to a service re-admitted, in the order given (R52, R53). -/
def State.admitTuned (s : State) (service : Nat) (order : List Screen) : State :=
  order.foldl (State.admitIfTuned service) s

/-- Lane n releases any seat it holds or leaves any waiting list it stands in, and the rental hands the seat on (R45 step
1, R46, R55). -/
def State.release (s : State) (n : Screen) : State :=
  ((s.mapTunedRental n (·.without n)).setLane n { s.lane n with standing := .none }).handOn (s.lane n)

/-! ### The key-miss flag, tuning and previews -/

/-- Lane n's key-miss flag takes a value; a change raises its LANE notice, and clear to set is a fault (R34, R61). -/
def State.setKeyMiss (s : State) (n : Screen) (miss : Bool) : State :=
  if (s.lane n).keyMiss = miss then s
  else (s.setLane n { s.lane n with keyMiss := miss }).raiseLane n miss

/-- The rating quad of a service's active entry, or 15, 15, 15, 15 if it is not in the line-up (R2, R12, R45). -/
def State.lineupRating (s : State) (service : Nat) : Rating :=
  match s.entry service with
  | some e => e.rating
  | none => .all 15

/-- Steps 3 and 4 of a TUNE but for the key-miss flag: the preview end dropped, the service and its rating taken (R45). -/
def State.retune (s : State) (n : Screen) (service : Nat) : State :=
  s.setLane n { s.lane n with tuned := some service, rating := s.lineupRating service, previewEnd := none }

/-- A TUNE that is taken, in the order of R45 (log 26, DEDUCED). -/
def State.tuneTo (s : State) (n : Screen) (service : Nat) : State :=
  ((((s.release n).setUnlock n none).retune n service).setKeyMiss n false).admitLane n

/-- An UNTUNE that is taken (R46); the shutdown flag is kept. The state and a set key-miss flag change at once, and one LANE
notice is raised for the two (R34, R61; log 26, DEDUCED). -/
def State.untuneLane (s : State) (n : Screen) : State :=
  let s1 := (s.release n).setUnlock n none
  let l := s1.lane n
  let s2 := s1.setLane n { Lane.atStart with shutdown := l.shutdown }
  if l.state = .off ∧ l.keyMiss = false then s2 else s2.raiseLane n false

/-- The expiry of lane n's preview: the end is dropped, and the admission is made as though the service were in the
preview-used list, to which it is added again if it has left it (R56). -/
def State.expirePreview (s : State) (n : Screen) : State :=
  let s1 := s.setLane n { s.lane n with previewEnd := none }
  match (s.lane n).tuned with
  | none => s1.admitLane n
  | some service => (s1.addPreviewUsed service).admitLane n

/-- The test of lane n's preview end against the run-second count (R56, R91). -/
def State.previewDue (s : State) (n : Screen) : Bool :=
  match (s.lane n).previewEnd with
  | some stop => decide (stop ≤ s.clock.run)
  | none => false

/-- Preview expiry of lane n, if it is due (R56; log 5, DEDUCED). -/
def State.previewTest (s : State) (n : Screen) : State := if s.previewDue n then s.expirePreview n else s

/-- The screen's unlock ends and its lane is re-admitted (R80). -/
def State.endUnlock (s : State) (n : Screen) : State := (s.setUnlock n none).admitLane n

/-- Every screen's unlock ends; the event re-admits the lanes itself (R80). -/
def State.dropUnlocks (s : State) : State := { s with lock := { s.lock with unlocks := Vector.replicate 4 none } }

/-- Unlock expiry of screen n, if the run-second count has reached its end (R80, R91). -/
def State.unlockTest (s : State) (n : Screen) : State :=
  match s.unlockOf n with
  | some u => if u.stop ≤ s.clock.run then s.endUnlock n else s
  | none => s

/-- The shutdown flag of every screen a mask names set or cleared (R60). -/
def State.setShutdown (s : State) (value : Bool) (named : List Screen) : State :=
  named.foldl (fun s n => s.setLane n { s.lane n with shutdown := value }) s

/-- SCREEN_SHUTDOWN and SCREEN_RESTORE: the flags of the screens named, then their lanes re-admitted in screen order
(R60; log 28, DEDUCED). -/
def State.shutdownScreens (s : State) (value : Bool) (named : List Screen) : State :=
  (s.setShutdown value named).admitEach named

/-- Every preview end dropped (R66). -/
def State.dropPreviews (s : State) : State :=
  screens.foldl (fun s n => s.setLane n { s.lane n with previewEnd := none }) s

/-- A verdict for a lane whose preview a ROOM_RESET has ended: it begins no other (R57, R66). -/
def Verdict.withoutPreview : Verdict → Verdict
  | .previewStart _ => .blank .purchaseNeeded
  | v => v

/-- Lane n re-admitted by a ROOM_RESET: one that was in PREVIEW is PURCHASE_NEEDED where no earlier check decides (R57, R66;
log 27, DEDUCED). -/
def State.resetLane (s : State) (n : Screen) : State :=
  if (s.lane n).state = .preview then s.admitAs n (s.verdict n).withoutPreview else s.admitLane n

/-- ROOM_RESET at the lanes, in the order of R66. -/
def State.resetScreens (s : State) : State :=
  screens.foldl State.resetLane ((s.dropPreviews.dropUnlocks).setShutdown false screens)

end Sys2Proof.Machine
end

