-- ==== Sys2Proof/Machine/Operands.lean ====
section
/-! DEFINITION. The operands of commands and requests: the fields of a frame's body, taken at receipt as R198 and R199
give. A body reaches these only after its count or length has been found right (R168, R186). -/

namespace Sys2Proof.Machine

/-- A value held to a range, as the column "received out of range" of R88 gives. -/
def clamp (low high v : Nat) : Nat := max low (min v high)

/-- One byte of a body. -/
def byteAt (body : List Byte) (offset : Nat) : Byte := body.getD offset 0

/-- A PIN field that stores a PIN: 0xFFFF is NONE, a value above 9999 is taken as 9999 (R198, R199, 11.2). -/
def pinOf (v : Nat) : Option Nat := if v = 0xFFFF then none else some (min v 9999)

/-- A quad of four bytes, each above 15 taken as 15 (R58, R198, R199). -/
def quadBytes (body : List Byte) (offset : Nat) : Rating :=
  ⟨min (field body offset 1) 15, min (field body (offset + 1) 1) 15, min (field body (offset + 2) 1) 15,
    min (field body (offset + 3) 1) 15⟩

/-- The rating quad of a LINEUP_ENTRY: age in bits 15..12, then violence, language and sexual content (11.2). -/
def quadWord (w : Nat) : Rating := ⟨w / 4096 % 16, w / 256 % 16, w / 16 % 16, w % 16⟩

/-- A generation; 0 is taken as 1 (R5, R10, R198). -/
def generationOf (v : Nat) : Nat := max v 1

/-- A price code; above 31 is taken as 31 (R198). -/
def priceCodeOf (v : Nat) : Fin 32 := ⟨min v 31, by omega⟩

/-- A service number on either link; above 4095 is taken as 0 (R198, R199). -/
def serviceOf (v : Nat) : Nat := if v > 4095 then 0 else v

/-- A screen taken as it stands; a value above 3 names none (R199). -/
def screenOf (v : Nat) : Option Screen := if h : v < 4 then some ⟨v, h⟩ else none

/-- A rental index taken as it stands; a value above 7 names none (R199). -/
def indexOf (v : Nat) : Option (Fin 8) := if h : v < 8 then some ⟨v, h⟩ else none

/-! ### Property line bodies -/

/-- The entry a LINEUP_ENTRY carries, with the fields its kind holds (R1, 11.2). A service above 4095 or a kind above 3 makes
it an entry of service number 0 (R198). -/
def lineupEntryOf (body : List Byte) : LineupEntry :=
  let flags := byteAt body 3
  let code := priceCodeOf (field body 5 1)
  let preview := min (field body 8 2) 600
  let entry (service : Nat) (terms : Terms) : LineupEntry :=
    { service := service
      adult := flags.getLsbD 7
      keySlot := if flags.getLsbD 6 then some (flags.extractLsb' 0 4).toFin else none
      rating := quadWord (field body 6 2)
      terms := terms }
  match field body 2 1 with
  | 0 => entry (serviceOf (field body 0 2)) .free
  | 1 => entry (serviceOf (field body 0 2)) (.package (min (field body 4 1) 15))
  | 2 => entry (serviceOf (field body 0 2)) (.film code preview)
  | 3 => entry (serviceOf (field body 0 2)) (.event code preview (field body 10 4) (field body 14 4))
  | _ => entry 0 .free

/-- The price entry a PRICE_SET writes, its terms clamped (R17). -/
def priceEntryOf (body : List Byte) : PriceEntry :=
  { base := field body 1 2
    hours := clamp 1 48 (field body 3 1)
    allowance := clamp 1 4 (field body 4 1)
    grace := min (field body 5 1) 15
    loaded := true }

/-- What a KEY_LOAD carries (R21, 11.2). -/
structure KeyLoad where
  slot : Fin 16
  parity : Parity
  epoch : BitVec 6
  word : ControlWord
  validUntil : Nat
  deriving DecidableEq, Repr

/-- The fields of a KEY_LOAD body: parity in bit 7 and slot in bits 3..0 of the first byte; an epoch above 63 is taken as 63
(R198). -/
def keyLoadOf (body : List Byte) : KeyLoad :=
  { slot := ((byteAt body 0).extractLsb' 0 4).toFin
    parity := if (byteAt body 0).getLsbD 7 then .odd else .even
    epoch := BitVec.ofNat 6 (min (field body 1 1) 63)
    word := BitVec.ofNat 64 (field body 2 8)
    validUntil := field body 10 4 }

/-- The ten changeable terms of a stay, clamped, from the bytes that follow CHECK_IN's session number (R88, 11.2). -/
def stayTermsOf (bytes : List Byte) : StayTerms :=
  { packages := BitVec.ofNat 16 (field bytes 0 2)
    adult := (byteAt bytes 2).getLsbD 0
    spendLimit := min (field bytes 3 4) 9999999
    cap := min (field bytes 7 4) 999999
    capReset := min (field bytes 11 4) 86399
    rateFactor := clamp 500 2000 (field bytes 15 2)
    tax := min (field bytes 17 2) 3000
    pinOnPurchase := (byteAt bytes 2).getLsbD 1
    rateCount := clamp 1 8 (field bytes 19 1)
    rateWindow := clamp 600 86400 (field bytes 20 4)
    unlockHold := clamp 60 14400 (field bytes 24 2) }

/-- What a CHECK_IN carries (R92, 11.2). -/
structure CheckIn where
  session : Nat
  terms : StayTerms
  pin : Option Nat
  ceilings : Rating
  deriving DecidableEq, Repr

/-- The fields of a CHECK_IN body (11.2, R198). -/
def checkInOf (body : List Byte) : CheckIn :=
  { session := field body 0 2
    terms := stayTermsOf (body.drop 2)
    pin := pinOf (field body 28 2)
    ceilings := quadBytes body 30 }

/-- Whether a screen mask names a screen: bit n names screen n (R60, 11.2). -/
def maskNames (body : List Byte) (n : Screen) : Bool := (byteAt body 0).getLsbD n.val

/-! ### Media link bodies -/

/-- The PIN a request offers as an attempt: absent in the shorter body, and 0xFFFF is no PIN carried (R199). -/
def carriedPin (body : List Byte) (offset : Nat) : Option Nat :=
  if body.length < offset + 2 then none else pinOf (field body offset 2)

/-- The mode a NOTICE_MODES byte sets; a byte above 3 leaves the kind's mode as it was (R199). -/
def modeOf (v : Nat) (old : NoticeMode) : NoticeMode :=
  match v with
  | 0 => .every
  | 1 => .first
  | 2 => .faultOnly
  | 3 => .off
  | _ => old

/-- The modes in force after a NOTICE_MODES: nine bytes in the order LANE, RENTALS, BILLING, ROOM, PIN, LINE, CLOCK, LINEUP,
START, of which BILLING, ROOM and START are ignored (R192, 11.5). -/
def modesOf (body : List Byte) (old : Modes) : Modes :=
  { lane := modeOf (field body 0 1) old.lane
    rentals := modeOf (field body 1 1) old.rentals
    pin := modeOf (field body 4 1) old.pin
    line := modeOf (field body 5 1) old.line
    clock := modeOf (field body 6 1) old.clock
    lineup := modeOf (field body 7 1) old.lineup }

/-- A room address; above 1022 is taken as 0 (R106, R199). -/
def addressOf (v : Nat) : Nat := if v > 1022 then 0 else v

end Sys2Proof.Machine
end

