-- ==== Sys2Proof/Machine/Lock.lean ====
section
/-! DEFINITION. The Lock Unit: PIN attempts (R74 to R76), the lockout (R75), changes of the room PIN (R77), ceilings (R68,
R85) and unlocks (R81, R83). -/

namespace Sys2Proof.Machine

/-- The failure count takes a value; a change raises a PIN notice (R74). -/
def State.setFailures (s : State) (count : Nat) : State :=
  if s.lock.failures = count then s
  else ({ s with lock := { s.lock with failures := count } }).raisePin false

/-- A wrong PIN: the count rises by 1; at 3 the lockout begins, 900 run seconds from now, and the one PIN notice raised is
that of the lockout, a fault (R74, R78; log 16, DEDUCED). -/
def State.wrongPin (s : State) : State :=
  if s.lock.failures + 1 < maxFailures then
    ({ s with lock := { s.lock with failures := s.lock.failures + 1 } }).raisePin false
  else
    ({ s with lock := { s.lock with
        failures := maxFailures, lockout := true, lockoutEnd := some (s.runEnd lockoutSeconds) } }).raisePin true

/-- A PIN attempt with the room PIN set, judged in the order of R74: the state after it, and the refusal if it is not
right. -/
def State.pinAttempt (s : State) (pin carried : Nat) : State × Option Result :=
  if s.lock.lockout then (s, some .pinLocked)
  else if carried = pin then (s.setFailures 0, none)
  else (s.wrongPin, some .pinWrong)

/-- The PIN of a request judged (R74, R76): while the room PIN is NONE nothing is compared; a request that requires a PIN
and carries none is refused and makes no attempt; a PIN carried is an attempt whether or not one was needed. -/
def State.judgePin (s : State) (required : Bool) (carried : Option Nat) : State × Option Result :=
  match s.lock.pin with
  | none => (s, none)
  | some pin =>
    match carried with
    | none => (s, if required then some .pinRequired else none)
    | some c => s.pinAttempt pin c

/-- The lockout flag cleared, its end dropped and the failure count 0 (R75, R77). -/
def LockUnit.noLockout (l : LockUnit) : LockUnit := { l with failures := 0, lockout := false, lockoutEnd := none }

/-- The room PIN replaced, with the count 0 and no lockout (R77), and the PIN notice raised (log 16, DEDUCED). -/
def State.storePin (s : State) (pin : Option Nat) : State :=
  ({ s with lock := { s.lock.noLockout with pin := pin } }).raisePin false

/-- A change of the room PIN by PIN_CLEAR or SET_PIN: every lane is re-admitted, then the PIN notice is raised (R77). -/
def State.changePin (s : State) (pin : Option Nat) : State :=
  (({ s with lock := { s.lock.noLockout with pin := pin } }).admitAll).raisePin false

/-- The end of the lockout (R75). -/
def State.endLockout (s : State) : State := ({ s with lock := s.lock.noLockout }).raisePin false

/-- Whether the run-second count has reached the lockout end (R75, R91). -/
def State.lockoutDue (s : State) : Bool :=
  s.lock.lockout && s.lock.lockoutEnd.any (fun stop => decide (stop ≤ s.clock.run))

/-- The lockout's end, if it is due (R75). -/
def State.lockoutTest (s : State) : State := if s.lockoutDue then s.endLockout else s

/-- The Lock Unit at a start: a lockout kept through a warm start runs 900 run seconds from the start, and no unlock is
kept (R75, R79). -/
def LockUnit.atStart (l : LockUnit) : LockUnit :=
  { l with lockoutEnd := if l.lockout then some lockoutSeconds else none, unlocks := Vector.replicate 4 none }

/-- A screen's unlock granted for a service, or renewed, for the room's unlock hold (R81 step 4, R82). -/
def State.grantUnlock (s : State) (n : Screen) (service : Nat) : State :=
  s.setUnlock n (some ⟨service, s.runEnd s.room.terms.unlockHold⟩)

/-- What a request's owner answers: its result code and the reply's body. -/
abbrev Answer := Result × ReplyBody

/-- The answer that carries the screen report, taken after the request's effects (R45, R63). -/
def State.reportAnswer (s : State) (n : Screen) : State × Answer := (s, .ok, .screen (s.screenReport n))

/-- UNLOCK: its checks and its grant, in the order of R81. -/
def State.unlockRequest (s : State) (screen : Nat) (carried : Option Nat) : State × Answer :=
  match screenOf screen with
  | none => (s, .badScreen, .none)
  | some n =>
    match (s.lane n).tuned with
    | none => (s, .noService, .none)
    | some service =>
      match s.judgePin true carried with
      | (s1, some refusal) => (s1, refusal, .none)
      | (s1, none) => ((s1.grantUnlock n service).admitLane n).reportAnswer n

/-- RELOCK: the unlock, if present, ends and the lane is re-admitted (R83; log 28, DEDUCED). -/
def State.relockRequest (s : State) (screen : Nat) : State × Answer :=
  match screenOf screen with
  | none => (s, .badScreen, .none)
  | some n =>
    match s.unlockOf n with
    | none => s.reportAnswer n
    | some _ => (s.endUnlock n).reportAnswer n

/-- A screen's ceilings replaced (R68). -/
def State.setCeiling (s : State) (n : Screen) (quad : Rating) : State :=
  { s with lock := { s.lock with ceilings := s.lock.ceilings.set n.val quad n.isLt } }

/-- SET_CEILINGS (R85). -/
def State.ceilingsRequest (s : State) (screen : Nat) (quad : Rating) (carried : Option Nat) : State × Answer :=
  match screenOf screen with
  | none => (s, .badScreen, .none)
  | some n =>
    match s.judgePin true carried with
    | (s1, some refusal) => (s1, refusal, .none)
    | (s1, none) => ((s1.setCeiling n quad).admitLane n).reportAnswer n

/-- SET_PIN (R86). -/
def State.setPinRequest (s : State) (newPin oldPin : Option Nat) : State × Answer :=
  match s.judgePin true oldPin with
  | (s1, some refusal) => (s1, refusal, .none)
  | (s1, none) => (s1.changePin newPin, .ok, .none)

end Sys2Proof.Machine
end

