-- ==== Sys2Proof/Machine/Charges.lean ====
section
/-! DEFINITION. Charge arithmetic (R132 to R143) and the Charge Queue: numbers (R145), creation (R144, R146), the folio
exchange (R150 to R154) and the totals it corrects (R140). -/

namespace Sys2Proof.Machine

/-! ### The amount of a purchase -/

/-- The net price (R132). -/
def netPrice (base factor : Nat) : Nat := (base * factor + 500) / 1000

/-- The tax on a net price (R133). -/
def taxOn (net tax : Nat) : Nat := (net * tax + 5000) / 10000

/-- The gross (R134). -/
def grossPrice (base factor tax : Nat) : Nat := netPrice base factor + taxOn (netPrice base factor) tax

/-- The amount: the gross, limited by what remains of the cap while one is set (R135). -/
def chargeAmount (base factor tax cap billed : Nat) : Nat :=
  if cap = 0 then grossPrice base factor tax else min (grossPrice base factor tax) (cap - billed)

/-- The capped mark: the cap limited the amount below the gross (R135). -/
def cappedMark (base factor tax cap billed : Nat) : Bool :=
  decide (chargeAmount base factor tax cap billed < grossPrice base factor tax)

/-! ### The totals -/

/-- A rise of session spend, saturating (R103, R138). -/
def spendRise (spend amount : Nat) : Nat := min (spend + amount) maxMoney

/-- A rise of the billed total: saturating, and while a cap is set stopping at the cap (R99, R138). -/
def billedRise (cap billed amount : Nat) : Nat :=
  if cap = 0 then min (billed + amount) maxMoney else min (min (billed + amount) maxMoney) cap

/-- Both totals raised by an amount (R138). -/
def RoomRecord.rise (r : RoomRecord) (amount : Nat) : RoomRecord :=
  { r with spend := spendRise r.spend amount, billed := billedRise r.terms.cap r.billed amount }

/-- Both totals lowered by an amount, each floored at 0 by itself (R139). -/
def RoomRecord.fall (r : RoomRecord) (amount : Nat) : RoomRecord :=
  { r with spend := r.spend - amount, billed := r.billed - amount }

/-- The signed difference D of a settlement, credits less charge, applied once to each total (R140). -/
def RoomRecord.applyDifference (r : RoomRecord) (credits charge : Nat) : RoomRecord :=
  if credits < charge then r.fall (charge - credits)
  else if charge < credits then r.rise (credits - charge)
  else r

/-- The Room Record's totals replaced, with a ROOM notice where either changed (R107, R126, R141). -/
def State.withTotals (s : State) (r : RoomRecord) : State :=
  let s1 := { s with room := r }
  if r.spend = s.room.spend ∧ r.billed = s.room.billed then s1 else s1.raiseRoom

/-! ### Numbers and creation -/

/-- The number after one, from 65,535 to 1 (R145). -/
def succNumber (n : Nat) : Nat := if 65535 ≤ n then 1 else n + 1

/-- What a CREDIT refers to (R144). -/
def QueueEntry.refersTo (e : QueueEntry) : Option Nat :=
  match e.kind with
  | .charge => none
  | .credit n => some n

/-- Whether a number is held: by an entry, by a CREDIT's refers-to, or by a rental (R145). -/
def State.numberHeld (s : State) (n : Nat) : Bool :=
  s.charges.entries.any (fun e => e.number == n || e.refersTo == some n) ||
    s.rentals.any (fun r => r.charge == some n)

/-- The first candidate not held, passing over at most so many (R145; log 33, DEDUCED). -/
def State.freeNumber (s : State) : (passes : Nat) → Nat → Nat
  | 0, candidate => candidate
  | passes + 1, candidate =>
    if s.numberHeld candidate then s.freeNumber passes (succNumber candidate) else candidate

/-- The number the next entry takes; it is found within 33 candidates (R145). -/
def State.nextNumber (s : State) : Nat := s.freeNumber 33 s.charges.next

/-- A new entry joins the end, WAITING, under the next free number, stamped with the room clock and the session in force
(R144 to R146). -/
def State.enqueue (s : State) (kind : ChargeKind) (service amount tax : Nat) : State :=
  let number := s.nextNumber
  let entry : QueueEntry :=
    { kind := kind, number := number, session := s.room.session, service := service, amount := amount, tax := tax,
      stamp := s.clock.count, state := .waiting }
  { s with charges := ⟨s.charges.entries ++ [entry], succNumber number⟩ }

/-- The state with the queue's entries replaced. -/
def State.setEntries (s : State) (entries : List QueueEntry) : State :=
  { s with charges := { s.charges with entries := entries } }

/-- The entry of a number; no two entries share one (R148). -/
def State.entryOf (s : State) (number : Nat) : Option QueueEntry :=
  s.charges.entries.find? (fun e => e.number == number)

/-! ### The folio exchange -/

/-- A CLOSING room whose queue has emptied becomes VACANT and raises a ROOM notice (R97). -/
def State.closeIfEmpty (s : State) : State :=
  if s.room.occupancy = .closing ∧ s.charges.entries = [] then
    ({ s with room := { s.room with occupancy := .vacant } }).raiseRoom
  else s

/-- COLLECT: a WAITING head becomes OFFERED (R150). -/
def State.collectHead (s : State) : State :=
  match s.charges.entries with
  | [] => s
  | e :: rest => if e.state = .waiting then s.setEntries ({ e with state := .offered } :: rest) else s

/-- CONFIRM n, by the tests of R151. -/
def State.confirmCharge (s : State) (n : Nat) : State × FolioAnswer :=
  match s.entryOf n with
  | none => (s, .stale)
  | some _ =>
    match s.charges.entries with
    | [] => (s, .stale)
    | e :: rest =>
      if e.number = n ∧ e.state = .offered then ((s.setEntries rest).closeIfEmpty, .none) else (s, .notHead)

/-- DECLINE n, by the tests of R152; the hold's beginning raises a BILLING notice, a fault (R156). -/
def State.declineCharge (s : State) (n : Nat) : State × FolioAnswer :=
  match s.entryOf n with
  | none => (s, .stale)
  | some _ =>
    match s.charges.entries with
    | [] => (s, .stale)
    | e :: rest =>
      if e.number = n ∧ e.kind ≠ .charge then (s.latchMessageError, .none)
      else if e.number = n ∧ e.state = .offered then
        ((s.setEntries ({ e with state := .declined } :: rest)).raiseBilling true, .none)
      else (s, .notHead)

/-- The DECLINED head, when it has number n (R153, R154). -/
def State.declinedHead (s : State) (n : Nat) : Option QueueEntry :=
  match s.heldHead with
  | some e => if e.number = n then some e else none
  | none => none

/-- Steps 1 to 3 of a settlement: the head and the CREDITs that refer to it leave, and the difference D is applied (R140,
R153; log 17, DEDUCED). -/
def State.settleCharge (s : State) (head : QueueEntry) : State :=
  let behind := s.charges.entries.drop 1
  let credits := behind.filter (fun e => e.refersTo == some head.number)
  let s1 := s.setEntries (behind.filter (fun e => e.refersTo != some head.number))
  s1.withTotals (s.room.applyDifference ((credits.map (·.amount)).sum) head.amount)

/-- Steps 5 and 6 of a settlement: the hold ends, with its BILLING notice, and an emptied CLOSING room becomes VACANT
(R153, R156; log 17, DEDUCED). -/
def State.endHold (s : State) : State := (s.raiseBilling false).closeIfEmpty

/-- The rental of a charge number takes the waived mark (R153 step 4). -/
def State.markWaived (s : State) (n : Nat) : State :=
  { s with rentals := s.rentals.map (fun r => if r.charge = some n then { r with waived := true } else r) }

/-- WAIVE n (R153). -/
def State.waiveCharge (s : State) (n : Nat) : State × FolioAnswer :=
  match s.declinedHead n with
  | none => (s, .notHeld)
  | some head => (((s.settleCharge head).markWaived n).endHold, .none)

end Sys2Proof.Machine
end

