-- ==== Sys2Proof/Machine/Keys.lean ====
section
/-! DEFINITION. The Key Store and the descrambler: loading (R21, R22), expiry (R25, R26), the transform (R36), and cells at a
lane (R29 to R34, R43, R58). -/

namespace Sys2Proof.Machine

/-! ### Loading and expiry -/

/-- Whether a load is refused: its target is LIVE, or the clock is SET and its valid-until is not later (R21, R22). -/
def State.keyRefused (s : State) (k : KeyLoad) : Bool :=
  (s.half k.slot k.parity).state == .live || (s.clock.isSet && decide (k.validUntil ≤ s.clock.count))

/-- KEY_LOAD (R21). -/
def State.loadKey (s : State) (k : KeyLoad) : State :=
  if s.keyRefused k then s.latchKeyRefused
  else s.setHalf k.slot k.parity ⟨.staged, k.word, k.epoch, k.validUntil⟩

/-- A half tested against a SET clock: a non-EMPTY half whose valid-until is reached becomes EMPTY with its fields 0 (R25). -/
def KeyHalf.tested (h : KeyHalf) (c : ClockUnit) : KeyHalf :=
  if c.isSet ∧ h.state ≠ .empty ∧ h.validUntil ≤ c.count then .noKey else h

/-- The expiry of one half, if it is due (R25). -/
def State.expireHalf (s : State) (slot : Fin 16) (p : Parity) : State := s.setHalf slot p ((s.half slot p).tested s.clock)

/-- The sixteen slots. -/
def slots : List (Fin 16) := [0, 1, 2, 3, 4, 5, 6, 7, 8, 9, 10, 11, 12, 13, 14, 15]

/-- Every non-EMPTY half judged at once against the clock (R25, R26). -/
def State.expireHalves (s : State) : State :=
  slots.foldl (fun s k => (s.expireHalf k .even).expireHalf k .odd) s

/-! ### The descrambling transform -/

/-- One step of the keystream, modulo 2^64 (R36 step 3). -/
def keyStep (x : ControlWord) : ControlWord := x * 0x9C6B3A5D21E74F15#64 + 0x3B1D7E290A56C4E7#64

/-- The seed: the control word exclusive-or the continuity count in each of eight bytes (R36 step 2). -/
def keySeed (word : ControlWord) (continuity : BitVec 4) : ControlWord :=
  word ^^^ (continuity.zeroExtend 64 * 0x0101010101010101#64)

/-- The bytes of so many blocks of the keystream after a state, each block most significant byte first (R36). -/
def keystream : (blocks : Nat) → ControlWord → List Byte
  | 0, _ => []
  | blocks + 1, x => beBytes 8 (keyStep x).toNat ++ keystream blocks (keyStep x)

/-- The transform of a payload of 24 blocks of 8 bytes (R36). -/
def transform (word : ControlWord) (continuity : BitVec 4) (payload : List Byte) : List Byte :=
  List.zipWith (· ^^^ ·) payload (keystream 24 (keySeed word continuity))

/-! ### Cells -/

/-- The null cell (R28). -/
def nullCell : Cell := ⟨0, .clear, 0, 0, List.replicate payloadBytes 0⟩

/-- Whether a lane is tuned to the service of a cell; an OFF lane is tuned to none, and no lane to service 0 (R29). -/
def Lane.takes (l : Lane) (service : BitVec 12) : Bool := l.tuned == some service.toNat && l.state != .off

/-- Whether a lane passes or decodes cells: OPEN or PREVIEW (R30, R32). -/
def LaneState.shows : LaneState → Bool
  | .opened | .preview => true
  | _ => false

/-- The parity of a scrambled cell as a cell kind (R28). -/
def cellKindOf : Parity → CellKind
  | .even => .even
  | .odd => .odd

/-- The slot and half an EVEN or ODD cell of a lane's tuned service is decoded from, or none for a key miss (R32, tests 1
to 4). -/
def State.keyFor (s : State) (service : Nat) (p : Parity) (epoch : BitVec 6) : Option (Fin 16 × KeyHalf) :=
  match (s.entry service).bind (·.keySlot) with
  | none => none
  | some slot =>
    let h := s.half slot p
    if h.state = .empty ∨ h.epoch ≠ epoch then none else some (slot, h)

/-- A decode from a STAGED half makes it LIVE, and a LIVE partner SPENT; any other decode changes no half (R33). -/
def KeySlot.decoded (k : KeySlot) (p : Parity) : KeySlot :=
  if (k.half p).state = .staged then
    let k1 := k.setHalf p { k.half p with state := .live }
    if (k.half (partner p)).state = .live then k1.setHalf (partner p) { k.half (partner p) with state := .spent } else k1
  else k

/-- The state after a decode from a half of a slot (R33). -/
def State.decodeFrom (s : State) (slot : Fin 16) (p : Parity) : State :=
  { s with keys := s.keys.set slot.val ((s.keys.get slot).decoded p) slot.isLt }

/-- A CLEAR cell at lane n (R29, R30). -/
def State.clearCellAt (s : State) (n : Screen) (c : Cell) : State :=
  if (s.lane n).takes c.service ∧ (s.lane n).state.shows then (s.setKeyMiss n false).place n c
  else s.place n nullCell

/-- An EVEN or ODD cell at lane n (R29, R31, R32). -/
def State.scrambledCellAt (s : State) (n : Screen) (p : Parity) (c : Cell) : State :=
  if (s.lane n).takes c.service ∧ (s.lane n).state.shows then
    match s.keyFor c.service.toNat p c.epoch with
    | none => (s.setKeyMiss n true).place n nullCell
    | some (slot, h) =>
      ((s.decodeFrom slot p).setKeyMiss n false).place n
        { c with kind := .clear, payload := transform h.word c.continuity c.payload }
  else s.place n nullCell

/-- A RATING cell at lane n: the rating from the first four payload bytes, each above 15 stored as 15, the lane
re-admitted, and a null cell (R58). -/
def State.ratingCellAt (s : State) (n : Screen) (c : Cell) : State :=
  if (s.lane n).takes c.service then
    ((s.setLane n { s.lane n with rating := quadBytes c.payload 0 }).admitLane n).place n nullCell
  else s.place n nullCell

end Sys2Proof.Machine
end

