-- ==== Sys2Proof/Machine/Lineup.lean ====
section
/-! DEFINITION. The Line-up Table and the Price Table: staging (R5 to R9), commit (R10 to R12) and prices (R17). -/

namespace Sys2Proof.Machine

/-- LINEUP_BEGIN (R5). -/
def State.beginLineup (s : State) (generation : Nat) : State :=
  { s with lineup := { s.lineup with standby := [], fault := false, staging := .filling generation } }

/-- Whether an entry is discarded with the fault mark set: service number 0, or an EVENT whose end is not after its
start (R8). -/
def LineupEntry.discarded (e : LineupEntry) : Bool :=
  e.service == 0 || match e.terms with
    | .event _ _ start stop => decide (stop ≤ start)
    | _ => false

/-- A table in order of service number with an entry in its place; an entry of the same service is replaced whole (R6). -/
def insertEntry (e : LineupEntry) : List LineupEntry → List LineupEntry
  | [] => [e]
  | x :: xs =>
    if e.service < x.service then e :: x :: xs
    else if e.service = x.service then e :: xs
    else x :: insertEntry e xs

/-- An entry that passes the test of R8, taken in FILLING (R6, R7). -/
def LineupTable.take (t : LineupTable) (generation : Nat) (e : LineupEntry) : LineupTable :=
  if (entryIn t.standby e.service).isNone ∧ lineupCapacity ≤ t.standby.length then
    { t with staging := .overfull generation }
  else { t with standby := insertEntry e t.standby }

/-- LINEUP_ENTRY, by the staging state (R6 to R9). -/
def State.stageEntry (s : State) (e : LineupEntry) : State :=
  match s.lineup.staging with
  | .idle => s.latchMessageError
  | .overfull _ => s
  | .filling generation =>
    if e.discarded then { s with lineup := { s.lineup with fault := true } }
    else { s with lineup := s.lineup.take generation e }

/-- The conditions of an accepted commit in FILLING (R10, 2 to 4). -/
def LineupTable.commits (t : LineupTable) (staged generation count : Nat) : Bool :=
  decide (generation = staged) && decide (count = t.standby.length) && !t.fault

/-- Each tuned lane's rating reset to its service's quad in the new table (R12). -/
def State.resetRatings (s : State) : State :=
  screens.foldl (fun s n =>
    match (s.lane n).tuned with
    | none => s
    | some service => s.setLane n { s.lane n with rating := s.lineupRating service }) s

/-- An accepted commit (R10, R12; log 18, DEDUCED). -/
def State.acceptLineup (s : State) (generation : Nat) : State :=
  let s1 := { s with lineup := ⟨s.lineup.standby, generation, .idle, [], false⟩ }
  s1.raiseLineup.resetRatings.admitAll

/-- A refused commit (R11). -/
def State.refuseLineup (s : State) : State :=
  ({ s with lineup := { s.lineup with standby := [], fault := false, staging := .idle } }).latchLineupRefused

/-- LINEUP_COMMIT, by the staging state (R9 to R11). -/
def State.commitLineup (s : State) (generation count : Nat) : State :=
  match s.lineup.staging with
  | .idle => s.latchMessageError
  | .overfull _ => s.refuseLineup
  | .filling staged =>
    if s.lineup.commits staged generation count then s.acceptLineup staged else s.refuseLineup

/-- PRICE_SET (R17). -/
def State.setPrice (s : State) (code : Fin 32) (e : PriceEntry) : State :=
  { s with prices := s.prices.set code.val e code.isLt }

/-- LINEUP_READ: the active generation, with the active entry and the price entry a FILM or EVENT names where the service is
in the line-up (R15). -/
def State.lineupAnswer (s : State) (service : Nat) : Answer :=
  match s.entry service with
  | none => (.unknownService, .lineup s.lineup.generation none none)
  | some e =>
    (.ok, .lineup s.lineup.generation (some e) (match e.terms with
      | .film code _ => some (s.prices.get code)
      | .event code _ _ _ => some (s.prices.get code)
      | _ => none))

end Sys2Proof.Machine
end

