-- ==== Sys2Proof/Machine/Rentals.lean ====
section
/-! DEFINITION. The Rental List: ends (R122, R123), metering (R121), purchase (R113 to R117) and cancel (R125, R126). -/

namespace Sys2Proof.Machine

/-! ### The end of a rental -/

/-- Every lane of a list loses its seat standing (R122). -/
def State.clearStandings (s : State) (lanes : List Screen) : State :=
  lanes.foldl (fun s n => s.setLane n { s.lane n with standing := .none }) s

/-- A rental ends: it leaves the list, its holders and waiters lose their standing, the lanes tuned to its service are
re-admitted in screen order, and a RENTALS notice is raised (R122). -/
def State.endRental (s : State) (index : Fin 8) : State :=
  match s.rentalAt index with
  | none => s
  | some r =>
    let s1 := { s with rentals := s.rentals.filter (fun x => x.index ≠ index) }
    ((s1.clearStandings (r.seats ++ r.waiting)).admitTuned r.service screens).raiseRentals

/-- The rentals of a list of indices end, in its order (R122: in purchase order). -/
def State.endRentals (s : State) (indices : List (Fin 8)) : State := indices.foldl State.endRental s

/-- Every rental ends, in purchase order (R96). -/
def State.endAllRentals (s : State) : State := s.endRentals (s.rentals.map (·.index))

/-- Whether the room clock has reached a rental's end (R123). -/
def Rental.due (r : Rental) (c : ClockUnit) : Bool := c.isSet && decide (r.stop ≤ c.count)

/-- Every rental whose end the clock has reached ends, in purchase order (R123). -/
def State.expireRentals (s : State) : State :=
  s.endRentals ((s.rentals.filter (fun r => r.due s.clock)).map (·.index))

/-- The expiry of the rental at one index, if it is due (R123). -/
def State.expireRentalAt (s : State) (index : Fin 8) : State :=
  match s.rentalAt index with
  | none => s
  | some r => if r.due s.clock then s.endRental index else s

/-- A room-clock second of viewing: every rental with a holder counts one, saturating (R121). -/
def State.meter (s : State) : State :=
  { s with rentals := s.rentals.map (fun r =>
      if r.seats = [] then r else { r with viewed := min (r.viewed + 1) maxViewed }) }

/-! ### Purchase -/

/-- What a sale of a service draws on: its kind, its price code and, for an EVENT, its window. -/
structure Sale where
  entry : LineupEntry
  kind : RentalKind
  price : PriceEntry
  window : Option (Nat × Nat)
  deriving DecidableEq, Repr

/-- The sale of a FILM or EVENT entry, or none for a service not for sale (R113, check 4). -/
def State.saleOf (s : State) (e : LineupEntry) : Option Sale :=
  match e.terms with
  | .film code _ => some ⟨e, .film, s.prices.get code, none⟩
  | .event code _ start stop => some ⟨e, .event, s.prices.get code, some (start, stop)⟩
  | _ => none

/-- Whether the sale window is open: for an EVENT, the clock lies in [event start − 1,800, event end) (R113, check 5). -/
def Sale.isOpen (sale : Sale) (clock : Nat) : Bool :=
  match sale.window with
  | none => true
  | some (start, stop) => decide (start - saleLead ≤ clock) && decide (clock < stop)

/-- An instant is recent when it is later than the room clock less W (R104). -/
def State.recentCount (s : State) : Nat :=
  (s.room.history.filter (fun t => decide (s.clock.count < t + s.room.terms.rateWindow))).length

/-- The rating the lock is judged on for a purchase: the lane's if it is tuned to the service, else the entry's (R114). -/
def State.saleRating (s : State) (n : Screen) (e : LineupEntry) : Rating :=
  if (s.lane n).tuned = some e.service then (s.lane n).rating else e.rating

/-- Steps 2 and 3 of check 10, after the PIN has been judged: a refusal, or whether the purchase is marked to grant an
unlock. `right` says that the PIN condition is met (R76, R114). Under the lock such a purchase also renews an unlock of the
service that the screen holds, and without the PIN condition a held unlock passes the check (R84; log 42, DEDUCED). -/
def State.judgeLock (s : State) (n : Screen) (e : LineupEntry) (right : Bool) : Except Result Bool :=
  if e.adult ∧ ¬ s.room.terms.adult then .error .adultBarred
  else if ¬ s.underLock n (s.saleRating n e) e.adult then .ok false
  else if right then .ok true
  else if s.holdsUnlock n e.service then .ok false
  else .error .contentLocked

/-- The amount of a sale under the room's terms (R131, R135). -/
def State.saleAmount (s : State) (sale : Sale) : Nat :=
  chargeAmount sale.price.base s.room.terms.rateFactor s.room.terms.tax s.room.terms.cap s.room.billed

/-- The capped mark of a sale under the room's terms (R135). -/
def State.saleCapped (s : State) (sale : Sale) : Bool :=
  cappedMark sale.price.base s.room.terms.rateFactor s.room.terms.tax s.room.terms.cap s.room.billed

/-- Checks 12 and 13 of a purchase (R113, R137); an amount of 0 skips check 12. -/
def State.judgeMoney (s : State) (amount : Nat) : Option Result :=
  if 0 < amount ∧ chargeLimit ≤ s.queueLength then some .creditFull
  else if 0 < amount ∧ s.room.terms.spendLimit < s.room.spend + amount then some .spendLimit
  else if rentalCapacity ≤ s.rentals.length then some .rentalsFull
  else none

/-- The lowest free index of the Rental List (R111); there is one while it holds fewer than 8 (log 36, DESIGN CHOICE). -/
def State.freeIndex (s : State) : Fin 8 :=
  (([0, 1, 2, 3, 4, 5, 6, 7] : List (Fin 8)).find? (fun i => (s.rentalAt i).isNone)).getD 0

/-- A new rental's end: a FILM's by the rental hours, held at 4,294,967,295; an EVENT's at the event end (R115 step 1). -/
def Sale.stop (sale : Sale) (clock : Nat) : Nat :=
  match sale.window with
  | none => min (clock + sale.price.hours * 3600) maxCount
  | some (_, stop) => stop

/-- The rental a purchase makes (R115 step 1). -/
def State.newRental (s : State) (sale : Sale) (charge : Option Nat) : Rental :=
  { index := s.freeIndex, service := sale.entry.service, kind := sale.kind, session := s.room.session,
    charge := charge, amount := s.saleAmount sale, capped := s.saleCapped sale, waived := false,
    start := s.clock.count, stop := sale.stop s.clock.count, allowance := sale.price.allowance,
    grace := sale.price.grace, viewed := 0, seats := [], waiting := [] }

/-- The screens in the order a purchase re-admits them: the purchasing screen first (R53, R115 step 7). -/
def purchaseOrder (n : Screen) : List Screen := n :: screens.filter (· ≠ n)

/-- Steps 1 to 5 of an accepted purchase: the rental, the CHARGE entry for an amount above 0, the totals, the history and
the preview-used list (R115). -/
def State.bookSale (s : State) (sale : Sale) : State :=
  let amount := s.saleAmount sale
  let charge := if 0 < amount then some s.nextNumber else none
  let s1 := if 0 < amount then s.enqueue .charge sale.entry.service amount s.room.terms.tax else s
  let s2 := { s1 with rentals := s.rentals ++ [s.newRental sale charge], room := s.room.rise amount }
  let s3 := { s2 with room := { s2.room with history := pushBounded historyCapacity s2.room.history s.clock.count } }
  s3.addPreviewUsed sale.entry.service

/-- An accepted purchase (R115). -/
def State.acceptSale (s : State) (n : Screen) (sale : Sale) (grant : Bool) : State :=
  let s1 := s.bookSale sale
  let s2 := if grant ∧ (s.lane n).tuned = some sale.entry.service then s1.grantUnlock n sale.entry.service else s1
  let s3 := (s2.admitTuned sale.entry.service (purchaseOrder n)).raiseRentals
  if 0 < s.saleAmount sale then s3.raiseRoom else s3

/-- The body of a purchase reply, from the rental made or already held (R116, R117). -/
def Rental.purchaseBody (r : Rental) : ReplyBody := .purchase r.index r.amount r.capped r.charge r.stop

/-- The reply to an accepted purchase, from the rental it makes (R116). -/
def State.saleBody (s : State) (sale : Sale) : ReplyBody :=
  (s.newRental sale (if 0 < s.saleAmount sale then some s.nextNumber else none)).purchaseBody

/-- Checks 10 to 13 of a purchase that has passed checks 1 to 9, and its acceptance (R113 to R115). -/
def State.judgeSale (s : State) (n : Screen) (sale : Sale) (carried : Option Nat) : State × Answer :=
  match s.judgePin s.room.terms.pinOnPurchase carried with
  | (s1, some refusal) => (s1, refusal, .none)
  | (s1, none) =>
    match s1.judgeLock n sale.entry (s.lock.pin.isNone || carried.isSome) with
    | .error refusal => (s1, refusal, .none)
    | .ok grant =>
      match s1.judgeMoney (s1.saleAmount sale) with
      | some refusal => (s1, refusal, .none)
      | none => (s1.acceptSale n sale grant, .ok, s1.saleBody sale)

/-- Checks 7 to 9 of a purchase: the price entry, the billing hold and the rate limit (R113). -/
def State.judgeTerms (s : State) (sale : Sale) : Option Result :=
  if ¬ sale.price.loaded then some .priceUnknown
  else if s.held then some .billingHeld
  else if s.room.terms.rateCount ≤ s.recentCount then some .rateLimit
  else none

/-- PURCHASE: checks 1 to 6 in order, and the rest of them (R113, R117). -/
def State.purchaseRequest (s : State) (screen service : Nat) (carried : Option Nat) : State × Answer :=
  match screenOf screen with
  | none => (s, .badScreen, .none)
  | some n =>
    if s.room.occupancy ≠ .occupied then (s, .notOccupied, .none)
    else if ¬ s.clock.isSet then (s, .clockUnset, .none)
    else match s.entry service with
    | none => (s, .unknownService, .none)
    | some e =>
      match s.saleOf e with
      | none => (s, .notForSale, .none)
      | some sale =>
        if ¬ sale.isOpen s.clock.count then (s, .outsideWindow, .none)
        else match s.rentalOf service with
        | some r => (s, .already, r.purchaseBody)
        | none =>
          match s.judgeTerms sale with
          | some refusal => (s, refusal, .none)
          | none => s.judgeSale n sale carried

/-! ### Cancel -/

/-- What becomes of a rental's charge at an accepted cancel (R126). -/
inductive CancelCase where
  /-- no charge, or a waived one -/
  | nothing
  /-- the CHARGE entry is WAITING and is withdrawn -/
  | withdraw (number : Nat)
  /-- the CHARGE entry is OFFERED or confirmed, and a CREDIT answers it -/
  | credit (number : Nat)
  deriving DecidableEq, Repr

/-- The case of a cancel, by the state of the rental's charge (R126). -/
def State.cancelCase (s : State) (r : Rental) : CancelCase :=
  match r.charge with
  | none => .nothing
  | some number =>
    if r.waived then .nothing
    else match s.entryOf number with
    | some e => if e.state = .waiting then .withdraw number else .credit number
    | none => .credit number

/-- Check 4 of a cancel: the rental's charge number is that of a DECLINED entry (R125). -/
def State.chargeDeclined (s : State) (r : Rental) : Bool :=
  s.charges.entries.any (fun e => r.charge == some e.number && e.state == .declined)

/-- Checks 3 to 5 of a cancel (R125). -/
def State.judgeCancel (s : State) (r : Rental) : Option Result :=
  if r.grace ≤ r.viewed / 60 then some .cancelTooLate
  else if s.chargeDeclined r then some .billingHeld
  else match s.cancelCase r with
    | .credit _ => if queueCapacity ≤ s.queueLength then some .queueFull else none
    | _ => none

/-- The queue's side of an accepted cancel (R126). -/
def State.cancelQueue (s : State) (r : Rental) : State :=
  match s.cancelCase r with
  | .nothing => s
  | .withdraw number => s.setEntries (s.charges.entries.filter (fun e => e.number ≠ number))
  | .credit number => s.enqueue (.credit number) r.service r.amount s.room.terms.tax

/-- The amount an accepted cancel takes off the counters (R126). -/
def State.cancelAmount (s : State) (r : Rental) : Nat :=
  match s.cancelCase r with
  | .nothing => 0
  | _ => r.amount

/-- The number of the CREDIT an accepted cancel appends (R126). -/
def State.creditNumber (s : State) (r : Rental) : Option Nat :=
  match s.cancelCase r with
  | .credit _ => some s.nextNumber
  | _ => none

/-- An accepted cancel: the queue and the counters, then the rental's end, then the ROOM notice where the counters
changed (R126). -/
def State.acceptCancel (s : State) (r : Rental) : State :=
  let room := s.room.fall (s.cancelAmount r)
  let s1 := ({ s.cancelQueue r with room := room }).endRental r.index
  if room.spend = s.room.spend ∧ room.billed = s.room.billed then s1 else s1.raiseRoom

/-- CANCEL_RENTAL, judged in the order of R125. -/
def State.cancelRequest (s : State) (index : Nat) (carried : Option Nat) : State × Answer :=
  match (indexOf index).bind s.rentalAt with
  | none => (s, .noRental, .none)
  | some r =>
    if r.session ≠ s.room.session then (s, .noRental, .none)
    else match s.judgePin s.room.terms.pinOnPurchase carried with
    | (s1, some refusal) => (s1, refusal, .none)
    | (s1, none) =>
      match s1.judgeCancel r with
      | some refusal => (s1, refusal, .none)
      | none => (s1.acceptCancel r, .ok, .cancel r.service (s1.cancelAmount r) (s1.creditNumber r))

/-! ### Revoke -/

/-- The rental of a charge number (R154). -/
def State.rentalOfCharge (s : State) (n : Nat) : Option Rental := s.rentals.find? (fun r => r.charge == some n)

/-- The rental of a charge number ends, if the list holds one (R154). -/
def State.endRentalOfCharge (s : State) (n : Nat) : State :=
  match s.rentalOfCharge n with
  | some r => s.endRental r.index
  | none => s

/-- REVOKE n (R154). -/
def State.revokeCharge (s : State) (n : Nat) : State × FolioAnswer :=
  match s.declinedHead n with
  | none => (s, .notHeld)
  | some head => (((s.settleCharge head).endRentalOfCharge n).endHold, .none)

end Sys2Proof.Machine
end

