-- ==== Sys2Proof/Machine/Room.lean ====
section
/-! DEFINITION. The Room Record: opening, refreshing and closing a stay (R92 to R98), the cap and its period (R99 to R102) and
the room address (R106). -/

namespace Sys2Proof.Machine

/-! ### The cap period -/

/-- The first boundary later than t: the instants whose second of the day is the cap reset (R100). -/
def boundaryAfter (t capReset : Nat) : Nat :=
  if t < t / daySeconds * daySeconds + capReset then t / daySeconds * daySeconds + capReset
  else t / daySeconds * daySeconds + capReset + daySeconds

/-- The latest boundary at or before t (R100; log 35, DESIGN CHOICE). -/
def boundaryAtOrBefore (t capReset : Nat) : Nat := boundaryAfter t capReset - daySeconds

/-- A cap as it is stored: 0 stands, any other value is raised to the billed total (R99, R136). -/
def storedCap (received billed : Nat) : Nat := if received = 0 then 0 else max received billed

/-- A period that starts at t (R100; log 25, DESIGN CHOICE). -/
def capWindowFrom (t capReset : Nat) : CapWindow := ⟨t, boundaryAfter t capReset⟩

/-- A pending period becomes running from the clock, its billed total kept; nothing is reported (R100). -/
def State.startPeriod (s : State) : State :=
  if s.room.period.isNone ∧ s.clock.isSet then
    { s with room := { s.room with period := some (capWindowFrom s.clock.count s.room.terms.capReset) } }
  else s

/-- Whether a running period's end has been reached (R101). -/
def State.periodDue (s : State) : Bool :=
  s.clock.isSet && s.room.period.any (fun p => decide (p.stop ≤ s.clock.count))

/-- A rollover: the billed total 0, and the period that contains the clock (R100, R101). -/
def State.rollover (s : State) : State :=
  let start := boundaryAtOrBefore s.clock.count s.room.terms.capReset
  ({ s with room := { s.room with
      billed := 0, period := some (capWindowFrom start s.room.terms.capReset) } }).raiseRoom

/-- The period's end tested against the clock (R101). -/
def State.periodTest (s : State) : State := if s.periodDue then s.rollover else s

/-! ### The stay -/

/-- The Room Record of a stay just opened: steps 1 to 4, 6 and 7 of R92. -/
def State.openedRoom (s : State) (c : CheckIn) : RoomRecord :=
  { address := s.room.address
    occupancy := .occupied
    session := c.session
    terms := c.terms
    spend := 0
    period := if s.clock.isSet then some (capWindowFrom s.clock.count c.terms.capReset) else none
    billed := 0
    history := []
    previewUsed := []
    retentionLost := false }

/-- A CHECK_IN that opens a stay, from VACANT or CLOSING (R92). -/
def State.openStay (s : State) (c : CheckIn) : State :=
  let s1 := { s with room := s.openedRoom c, lock := { s.lock with ceilings := Vector.replicate 4 c.ceilings } }
  ((s1.dropUnlocks.storePin c.pin).admitAll).raiseRoom

/-- The end of a running period under a changed cap reset: the first boundary later than both the clock and the start
(R102). -/
def State.movedPeriod (s : State) (capReset : Nat) : Option CapWindow :=
  if capReset = s.room.terms.capReset then s.room.period
  else s.room.period.map (fun p => ⟨p.start, boundaryAfter (max s.clock.count p.start) capReset⟩)

/-- The changeable terms stored, the cap raised to the billed total (R98, R99, R102). -/
def State.storeTerms (s : State) (t : StayTerms) : State :=
  { s with room := { s.room with
      period := s.movedPeriod t.capReset, terms := { t with cap := storedCap t.cap s.room.billed } } }

/-- A ROOM_UPDATE in OCCUPIED, and a CHECK_IN with the session in force (R94, R98). -/
def State.refreshStay (s : State) (t : StayTerms) : State := ((s.storeTerms t).admitAll).raiseRoom

/-- ROOM_UPDATE (R98). -/
def State.updateRoom (s : State) (t : StayTerms) : State :=
  if s.room.occupancy = .occupied then s.refreshStay t else s.latchMessageError

/-- Steps 3 to 5 of a check-out: the permit off, the mask and the preview-used list cleared, and the occupancy by the state
of the queue (R96). -/
def State.closedRoom (s : State) : RoomRecord :=
  { s.room with
    terms := { s.room.terms with adult := false, packages := 0 }
    previewUsed := []
    occupancy := if s.charges.entries = [] then .vacant else .closing }

/-- A check-out of an OCCUPIED room, in the order of R96; each rental's end has raised its RENTALS notice (R122, log 15, DEDUCED). -/
def State.closeStay (s : State) : State :=
  let s1 := s.endAllRentals.dropUnlocks
  (({ s1 with room := s1.closedRoom }).admitAll).raiseRoom

/-- CHECK_OUT; in VACANT or CLOSING it changes nothing (R96, R97). -/
def State.checkOutRoom (s : State) : State := if s.room.occupancy = .occupied then s.closeStay else s

/-- CHECK_IN, by its session number and the occupancy (R92 to R95). -/
def State.checkInRoom (s : State) (c : CheckIn) : State :=
  if c.session = 0 then s.latchMessageError
  else if s.room.occupancy = .occupied then
    if c.session = s.room.session then s.refreshStay c.terms else s.closeStay.openStay c
  else s.openStay c

/-- SET_ROOM_ADDRESS (R106). -/
def State.addressRequest (s : State) (address : Nat) : State × Answer :=
  if s.room.occupancy ≠ .vacant then (s, .notVacant, .none)
  else
    let s1 := { s with room := { s.room with address := address } }
    (if address = s.room.address then s1 else s1.raiseRoom, .ok, .address address)

end Sys2Proof.Machine
end

