-- ==== Sys2Proof/Machine/Clock.lean ====
section
/-! DEFINITION. The two time bases: the room clock and the tests made against it (R90, R175, R176), the run seconds and
the timers kept in them (R91, R179), and the commands of both families. -/

namespace Sys2Proof.Machine

/-- The order in which an event takes its tasks: those named first, each once, then the others (log 4, DESIGN CHOICE). -/
def takeOrder {α : Type} [DecidableEq α] (all named : List α) : List α := (named ++ all).eraseDups

/-- The tasks of an event that moves the room clock, in the order they follow when none is named. -/
def clockTasks : List ClockTask := [.metering, .keyHalves, .rentalEnds, .capPeriod, .windows, .clockNotice]

/-! ### The room clock -/

/-- Whether the clock stands on an EVENT entry's start or end (R54). -/
def LineupEntry.onEdge (e : LineupEntry) (c : ClockUnit) : Bool :=
  match e.terms with
  | .event _ _ start stop => c.isSet && (c.count == start || c.count == stop)
  | _ => false

/-- Whether lane n is tuned to an EVENT whose start or end the clock stands on (R54). -/
def State.laneOnEdge (s : State) (n : Screen) : Bool :=
  ((s.lane n).tuned.bind s.entry).any (fun e => e.onEdge s.clock)

/-- One lane re-admitted if the clock stands on an edge of its EVENT (log 31, DEDUCED). -/
def State.admitOnEdge (s : State) (n : Screen) : State := if s.laneOnEdge n then s.admitLane n else s

/-- One task of a room-clock second, made against the new count (R90). -/
def State.secondTask (s : State) : ClockTask → State
  | .metering => s.meter
  | .keyHalves => s.expireHalves
  | .rentalEnds => s.expireRentals
  | .capPeriod => s.periodTest
  | .windows => screens.foldl State.admitOnEdge s
  | .clockNotice => s

/-- Whether the room clock counts: SET, and not at its highest count (R90). -/
def ClockUnit.counts (c : ClockUnit) : Bool := c.isSet && decide (c.count < maxCount)

/-- A room-clock second: the clock counts, and a part with its supply makes every test against the new count (R90, R108; log 5, DEDUCED). -/
def State.roomSecond (s : State) (order : List ClockTask) : State :=
  if s.clock.counts then
    let s1 := { s with clock := { s.clock with count := s.clock.count + 1 } }
    if s.powered then (takeOrder clockTasks order).foldl State.secondTask s1 else s1
  else s

/-- How a TIME_SET to t moves the clock (R176). -/
def ClockUnit.jumpTo (c : ClockUnit) (t : Nat) : Jump :=
  if ¬ c.isSet then .first else if c.count < t then .forward else if t < c.count then .backward else .none

/-- One task of a TIME_SET, made against t (R175, R176). -/
def State.setTask (jump : Jump) (s : State) : ClockTask → State
  | .metering => s
  | .keyHalves => s.expireHalves
  | .rentalEnds => s.expireRentals
  | .capPeriod => if s.room.period.isNone then s.startPeriod else s.periodTest
  | .windows => s.admitAll
  | .clockNotice => s.raise .clock (.clock s.clock.count jump) false

/-- TIME_SET: the clock becomes t and SET, and every test is made at once against t (R175). -/
def State.setTime (s : State) (t : Nat) (order : List ClockTask) : State :=
  let s1 := { s with clock := { s.clock with isSet := true, count := t } }
  (takeOrder clockTasks order).foldl (State.setTask (s.clock.jumpTo t)) s1

/-- One task of a warm start: the retained blocks test once against the clock as it stands (R90, R108). The lanes are OFF and
the halves EMPTY, and no CLOCK notice is raised (log 38, DEDUCED). -/
def State.startTask (s : State) : ClockTask → State
  | .rentalEnds => s.expireRentals
  | .capPeriod => if s.room.period.isNone then s.startPeriod else s.periodTest
  | _ => s

/-! ### Run seconds -/

/-- The timers kept in run seconds, in the order they follow when none is named. -/
def runTimers : List RunTimer :=
  [.preview 0, .preview 1, .preview 2, .preview 3, .unlock 0, .unlock 1, .unlock 2, .unlock 3, .lockout, .silence]

/-- The line becomes DOWN when the silence count has reached 300 (R179). -/
def State.silenceTest (s : State) : State :=
  if s.line.up ∧ silenceLimit ≤ s.line.silence then
    ({ s with line := { s.line with up := false, silence := silenceLimit } }).raiseLine
  else s

/-- The test of one timer at a run tick (R56, R75, R80, R91, R179). -/
def State.timerTest (s : State) : RunTimer → State
  | .preview n => s.previewTest n
  | .unlock n => s.unlockTest n
  | .lockout => s.lockoutTest
  | .silence => s.silenceTest

/-- The counts of a run tick: the run seconds, saturating, and the silence count while the line is UP (R91, R179). -/
def State.tickCounts (s : State) : State :=
  { s with
    clock := { s.clock with run := min (s.clock.run + 1) maxCount }
    line := { s.line with silence := if s.line.up then s.line.silence + 1 else s.line.silence } }

/-- A run tick: the counts, then every timer that is due (R91; log 5, DEDUCED). -/
def State.tick (s : State) (order : List RunTimer) : State :=
  (takeOrder runTimers order).foldl State.timerTest s.tickCounts

/-! ### The commands -/

/-- A command that only a part with its supply takes (R108, log 12, DESIGN CHOICE). -/
def State.ifPowered (s : State) (f : State → State) : State := if s.powered then f s else s

/-- RUN_TICK (R91, R179; log 4, DESIGN CHOICE). -/
def execRunTick (order : List RunTimer) (s : State) : Host.Outcome State Fault Refusal :=
  .next (s.ifPowered (fun s => s.tick order))

/-- PREVIEW_EXPIRY of one lane, if its end is reached (R56). -/
def execPreviewExpiry (lane : Screen) (s : State) : Host.Outcome State Fault Refusal :=
  .next (s.ifPowered (fun s => s.previewTest lane))

/-- UNLOCK_EXPIRY of one screen, if its end is reached (R80). -/
def execUnlockExpiry (screen : Screen) (s : State) : Host.Outcome State Fault Refusal :=
  .next (s.ifPowered (fun s => s.unlockTest screen))

/-- LOCKOUT_END, if the end is reached (R75). -/
def execLockoutEnd (s : State) : Host.Outcome State Fault Refusal :=
  .next (s.ifPowered State.lockoutTest)

/-- LINE_DOWN, if the silence count is reached (R179). -/
def execLineDown (s : State) : Host.Outcome State Fault Refusal :=
  .next (s.ifPowered State.silenceTest)

/-- ROOM_CLOCK_SECOND (R90); the clock counts on the backup supply too (R108). -/
def execRoomClockSecond (order : List ClockTask) (s : State) : Host.Outcome State Fault Refusal :=
  .next (s.roomSecond order)

/-- KEY_EXPIRY of one half, if its valid-until is reached (R25). -/
def execKeyExpiry (slot : Fin 16) (parity : Parity) (s : State) : Host.Outcome State Fault Refusal :=
  .next (s.ifPowered (fun s => s.expireHalf slot parity))

/-- RENTAL_EXPIRY of the rental at an index, if its end is reached (R123). -/
def execRentalExpiry (index : Fin 8) (s : State) : Host.Outcome State Fault Refusal :=
  .next (s.ifPowered (fun s => s.expireRentalAt index))

/-- The lanes tuned to an EVENT re-admitted, if the clock stands on its start or end (R54; log 31, DEDUCED). -/
def State.edgeTest (s : State) (service : Nat) : State :=
  if (s.entry service).any (fun e => e.onEdge s.clock) then s.admitTuned service screens else s

/-- EVENT_WINDOW_EDGE of a service (R54). -/
def execEventWindowEdge (service : BitVec 12) (s : State) : Host.Outcome State Fault Refusal :=
  .next (s.ifPowered (fun s => s.edgeTest service.toNat))

/-- CAP_PERIOD_ROLLOVER, if the running period's end is reached (R101). -/
def execCapPeriodRollover (s : State) : Host.Outcome State Fault Refusal :=
  .next (s.ifPowered State.periodTest)

end Sys2Proof.Machine
end

