-- ==== Sys2Proof/Machine/Cells.lean ====
section
/-! DEFINITION. The commands of the stream inputs: one cell in, one cell out (R43). -/

namespace Sys2Proof.Machine

/-- CLEAR_CELL at a lane (R29, R30). -/
def execClearCell (lane : Screen) (service : BitVec 12) (continuity : BitVec 4) (epoch : BitVec 6) (payload : List Byte)
    (s : State) : Host.Outcome State Fault Refusal :=
  .next (s.ifPowered (fun s => s.clearCellAt lane ⟨service, .clear, continuity, epoch, payload⟩))

/-- SCRAMBLED_CELL, EVEN or ODD, at a lane (R29, R31 to R33). -/
def execScrambledCell (lane : Screen) (parity : Parity) (service : BitVec 12) (continuity : BitVec 4) (epoch : BitVec 6)
    (payload : List Byte) (s : State) : Host.Outcome State Fault Refusal :=
  .next (s.ifPowered (fun s =>
    s.scrambledCellAt lane parity ⟨service, cellKindOf parity, continuity, epoch, payload⟩))

/-- RATING_CELL at a lane (R58). -/
def execRatingCell (lane : Screen) (service : BitVec 12) (continuity : BitVec 4) (epoch : BitVec 6) (payload : List Byte)
    (s : State) : Host.Outcome State Fault Refusal :=
  .next (s.ifPowered (fun s => s.ratingCellAt lane ⟨service, .rating, continuity, epoch, payload⟩))

end Sys2Proof.Machine
end

