-- ==== Sys2Proof/Machine/Starts.lean ====
section
/-! DEFINITION. Starts, warm and cold (R108, R109), the loss of the supply, and what a host RESTART does (R195). -/

namespace Sys2Proof.Machine

/-- What every start restores: the volatile blocks, and the parts of the retained ones that are volatile (R3, R4, R19, R41,
R64, R79, R91, R130, R181, R196). -/
def State.volatileStart (s : State) : State :=
  { s with
    powered := true
    clock := { s.clock with run := 0 }
    lineup := .atStart
    prices := Vector.replicate 32 .atStart
    keys := Vector.replicate 16 ⟨.noKey, .noKey⟩
    lanes := Vector.replicate 4 .atStart
    outs := Vector.replicate 4 none
    lock := s.lock.atStart
    rentals := s.rentals.map (fun r => { r with seats := [], waiting := [] })
    line := .atStart
    link := .atStart }

/-- A warm start before its START notice: the retention domain kept and tested once against a SET clock (R90, R108). -/
def State.warmBlocks (s : State) (order : List ClockTask) : State :=
  let s1 := { s.volatileStart with lastStart := .warm }
  if s.clock.isSet then (takeOrder clockTasks order).foldl State.startTask s1 else s1

/-- A cold start before its START notice: every rental ends with its RENTALS notice (R122, R129), the retention domain takes
its cold values (R109), and a hold that the emptied queue ends raises its BILLING notice (R156; log 40, DEDUCED). -/
def State.coldBlocks (s : State) : State :=
  let s1 := { s.volatileStart.endAllRentals with
    lastStart := .cold, clock := .cold, lock := .cold, room := .cold, rentals := [], charges := .cold }
  if s.held then s1.raiseBilling false else s1

/-- The START notice at the end of a start; what the start itself raised stands behind it (R197, log 19, DEDUCED). -/
def State.raiseStart (s : State) (origin : Origin) : State :=
  { s with link := { s.link with notices := ⟨.start, .start (s.startView origin), 1⟩ :: s.link.notices } }

/-- A start, warm with the retention indicator good and cold with it showing loss (R108, R109). -/
def State.start (s : State) (retentionGood : Bool) (order : List ClockTask) : State :=
  if retentionGood then (s.warmBlocks order).raiseStart .warm else s.coldBlocks.raiseStart .cold

/-- POWER_ON (R108, R109). -/
def execPowerOn (retentionGood : Bool) (order : List ClockTask) (s : State) : Host.Outcome State Fault Refusal :=
  .next (s.start retentionGood order)

/-- The seconds that pass while the reset pin is held: a SET clock counts them on, up to its highest count, and no block acts
on its tests (R90; log 43, DESIGN CHOICE). -/
def State.countHeld (s : State) (seconds : Nat) : State :=
  if s.clock.isSet then { s with clock := { s.clock with count := min (s.clock.count + seconds) maxCount } }
  else s

/-- RESET_PIN: the pin is held for so many room-clock seconds, and then a part with its supply makes the same start as at a
power-on (R90, R108, R109). -/
def execResetPin (hold : ResetHold) (order : List ClockTask) (s : State) : Host.Outcome State Fault Refusal :=
  .next (s.ifPowered (fun s => (s.countHeld hold.seconds).start hold.retentionGood order))

/-- POWER_LOSS: the part stops acting until the next start (R108, log 12, DESIGN CHOICE). -/
def execPowerLoss (s : State) : Host.Outcome State Fault Refusal :=
  .next { s with powered := false }

/-- Every lane untuned in screen order (R65). -/
def State.untuneAll (s : State) : State := screens.foldl State.untuneLane s

/-- A host RESTART taking effect, in the steps of R195; the transmitter has sent the RESTART reply and has not yet chosen its
next frame. -/
def State.takeRestart (s : State) : State :=
  let s1 := { s with link := { s.link with buffer := [], tx := .idle } }
  let s2 := s1.untuneAll
  let s3 := { s2 with link := { s2.link with
      notices := [], modes := .allEvery, armed := Vector.replicate 12 true } }
  s3.raiseStart .restart

end Sys2Proof.Machine
end

