-- ==== Sys2Proof/Machine/MediaLink.lean ====
section
/-! DEFINITION. The Media Link Interface: the request kinds (R186, 11.5) and what each does, the transmitter and what it chooses
(R185, R195), the receiver's characters and answers (R183 to R185), and the host's requests. -/

namespace Sys2Proof.Machine

/-! ### The request kinds -/

/-- The eighteen request kinds (section 10.4). -/
inductive MlKind where
  | identify
  | status
  | tune
  | untune
  | screenReport
  | lineupRead
  | purchase
  | cancelRental
  | rentalsRead
  | chargesRead
  | unlock
  | relock
  | setCeilings
  | setPin
  | noticesRead
  | noticeModes
  | setRoomAddress
  | restart
  deriving DecidableEq, Repr

/-- The kinds in the order of their codes. -/
def mlKinds : List MlKind :=
  [.identify, .status, .tune, .untune, .screenReport, .lineupRead, .purchase, .cancelRental, .rentalsRead,
    .chargesRead, .unlock, .relock, .setCeilings, .setPin, .noticesRead, .noticeModes, .setRoomAddress, .restart]

/-- A kind's code (11.5). -/
def MlKind.code : MlKind → Byte
  | .identify => 0x01
  | .status => 0x02
  | .tune => 0x03
  | .untune => 0x04
  | .screenReport => 0x05
  | .lineupRead => 0x06
  | .purchase => 0x07
  | .cancelRental => 0x08
  | .rentalsRead => 0x09
  | .chargesRead => 0x0A
  | .unlock => 0x0B
  | .relock => 0x0C
  | .setCeilings => 0x0D
  | .setPin => 0x0E
  | .noticesRead => 0x0F
  | .noticeModes => 0x10
  | .setRoomAddress => 0x11
  | .restart => 0x12

/-- The kind of a code, or none for a code that is no request kind (R186, step 1). -/
def mlKindOf (code : Byte) : Option MlKind := mlKinds.find? (fun k => k.code = code)

/-- The body lengths of a kind (11.5, R186 step 2): where there are two, the shorter omits the last PIN. -/
def MlKind.bodyLengths : MlKind → List Nat
  | .identify => [0]
  | .status => [0]
  | .tune => [3]
  | .untune => [1]
  | .screenReport => [1]
  | .lineupRead => [2]
  | .purchase => [3, 5]
  | .cancelRental => [1, 3]
  | .rentalsRead => [0]
  | .chargesRead => [0]
  | .unlock => [1, 3]
  | .relock => [1]
  | .setCeilings => [5, 7]
  | .setPin => [2, 4]
  | .noticesRead => [0]
  | .noticeModes => [9]
  | .setRoomAddress => [2]
  | .restart => [0]

/-! ### Requests to the stream unit -/

/-- TUNE, with its checks in order (R45). -/
def State.tuneRequest (s : State) (screen service : Nat) : State × Answer :=
  match screenOf screen with
  | none => (s, .badScreen, .none)
  | some n =>
    if service = 0 then (s, .noService, .none)
    else (s.tuneTo n service).reportAnswer n

/-- UNTUNE (R46). -/
def State.untuneRequest (s : State) (screen : Nat) : State × Answer :=
  match screenOf screen with
  | none => (s, .badScreen, .none)
  | some n => (s.untuneLane n).reportAnswer n

/-- SCREEN_REPORT (R63). -/
def State.reportRequest (s : State) (screen : Nat) : State × Answer :=
  match screenOf screen with
  | none => (s, .badScreen, .none)
  | some n => s.reportAnswer n

/-! ### Requests to the interface itself and the reading requests -/

/-- The body of an IDENTIFY reply (R187). -/
def State.identifyReport (s : State) : IdentifyReport := ⟨s.lastStart, s.clock.run⟩

/-- The body of a STATUS reply (R188). -/
def State.statusReport (s : State) : StatusReport :=
  { address := s.room.address
    occupancy := s.room.occupancy
    session := s.room.session
    retentionLost := s.room.retentionLost
    terms := s.room.terms
    spend := s.room.spend
    period := s.room.period
    billed := s.room.billed
    instants := s.room.history.length
    recent := s.recentCount
    previewUsed := s.room.previewUsed
    pin := s.pinView
    ceilings := s.lock.ceilings
    clockSet := s.clock.isSet
    clock := s.clock.count
    run := s.clock.run
    generation := s.lineup.generation
    entries := s.lineup.active.length
    staging := s.lineup.staging
    lineUp := s.line.up
    silence := s.line.silence
    rentals := s.rentals.length
    queueLength := s.queueLength
    held := s.held
    notices := s.link.notices.length }

/-- NOTICES_READ: every notice is listed and removed as the request is taken (R193). -/
def State.noticesRequest (s : State) : State × Answer :=
  ({ s with link := { s.link with notices := [] } }, .ok, .notices s.link.notices)

/-- NOTICE_MODES: the modes stored, every pair armed, and the queued notices of kinds now OFF removed (R192). -/
def State.modesRequest (s : State) (modes : Modes) : State × Answer :=
  ({ s with link := { s.link with
      modes := modes
      armed := Vector.replicate 12 true
      notices := s.link.notices.filter (fun n => modes.of n.pair ≠ .off) } }, .ok, .modes modes)

/-- A request of a known kind with a right length, handed to its owner (R186 step 3), its body taken at receipt (R199). -/
def State.mlAct (s : State) (kind : MlKind) (body : List Byte) : State × Answer :=
  match kind with
  | .identify => (s, .ok, .identify s.identifyReport)
  | .status => (s, .ok, .status s.statusReport)
  | .tune => s.tuneRequest (field body 0 1) (serviceOf (field body 1 2))
  | .untune => s.untuneRequest (field body 0 1)
  | .screenReport => s.reportRequest (field body 0 1)
  | .lineupRead => (s, s.lineupAnswer (serviceOf (field body 0 2)))
  | .purchase => s.purchaseRequest (field body 0 1) (serviceOf (field body 1 2)) (carriedPin body 3)
  | .cancelRental => s.cancelRequest (field body 0 1) (carriedPin body 1)
  | .rentalsRead => (s, .ok, .rentals s.rentals)
  | .chargesRead => (s, .ok, .charges s.charges.entries s.held s.charges.next)
  | .unlock => s.unlockRequest (field body 0 1) (carriedPin body 1)
  | .relock => s.relockRequest (field body 0 1)
  | .setCeilings => s.ceilingsRequest (field body 0 1) (quadBytes body 1) (carriedPin body 5)
  | .setPin => s.setPinRequest (pinOf (field body 0 2)) (carriedPin body 2)
  | .noticesRead => s.noticesRequest
  | .noticeModes => s.modesRequest (modesOf body s.link.modes)
  | .setRoomAddress => s.addressRequest (addressOf (field body 0 2))
  | .restart => (s, .ok, .none)

/-! ### Handling a request -/

/-- The reply that carries an answer, with the request's kind and tag as received (R186). -/
def MlFrame.reply (f : MlFrame) (answer : Answer) : MlReply := ⟨f.kind, f.tag, answer.1, answer.2⟩

/-- A request of a known kind judged by its length and handed to its owner (R186, steps 2 and 3). -/
def State.judgeRequest (s : State) (kind : MlKind) (body : List Byte) : State × Answer :=
  if body.length ∈ kind.bodyLengths then s.mlAct kind body else (s, .badLength, .none)

/-- A request of any kind judged (R186). -/
def State.judgeFrame (s : State) (f : MlFrame) : State × Answer :=
  match mlKindOf f.kind with
  | none => (s, .unknownRequest, .none)
  | some kind => s.judgeRequest kind f.body

/-! ### The transmitter -/

/-- The state with the transmitter in a state. -/
def State.setTx (s : State) (tx : MlTx) : State := { s with link := { s.link with tx := tx } }

/-- The transmitter begins a frame (R185). -/
def State.send (s : State) (reply : MlReply) : State := s.setTx (.sending reply)

/-- The state with the receive buffer holding these frames. -/
def State.setBuffer (s : State) (frames : List MlFrame) : State := { s with link := { s.link with buffer := frames } }

/-- A frame taken from the receive buffer is judged and handed to its owner, which sees nothing of the frames that wait
behind it, and its reply is sent (R185 step 2, R186). -/
def State.handle (s : State) (f : MlFrame) (behind : List MlFrame) : State :=
  let (s1, answer) := (s.setBuffer []).judgeFrame f
  (s1.setBuffer behind).send (f.reply answer)

/-- The transmitter, idle, chooses its next frame: the oldest answer, else the oldest request of the buffer, which is
handled, else none (R185). -/
def State.chooseNext (s : State) : State :=
  match s.link.answers with
  | a :: rest => ({ s with link := { s.link with answers := rest } }).send a
  | [] =>
    match s.link.buffer with
    | f :: rest => s.handle f rest
    | [] => s

/-- An idle transmitter chooses at once when something has come to wait for it (R185). -/
def State.chooseIfIdle (s : State) : State := if s.link.tx = .idle then s.chooseNext else s

/-- Whether a frame on the transmitter is the reply to a RESTART that was carried out (R195). -/
def MlTx.isRestart : MlTx → Bool
  | .idle => false
  | .sending reply => decide (reply.kind = MlKind.restart.code) && decide (reply.result = .ok)

/-- The transmitter's frame ends: a RESTART whose reply has been sent takes effect before the next frame is chosen (R185,
R195). -/
def State.finishTx (s : State) : State :=
  if s.link.tx.isRestart then s.takeRestart else s.setTx .idle

/-- The transmitter is done with its frame, if it had one, and chooses its next (R185, R195). -/
def State.transmitNext (s : State) : State := s.finishTx.chooseNext

/-! ### The receiver -/

/-- A frame-level answer joins the answer list, or is dropped when 4 are waiting (R185). -/
def State.addAnswer (s : State) (reply : MlReply) : State :=
  if s.link.answers.length < linkPlaces then
    { s with link := { s.link with answers := s.link.answers ++ [reply] } }
  else s

/-- BAD_FRAME, with kind 0 and tag 0 (R185). -/
def badFrame : MlReply := ⟨0, 0, .badFrame, .none⟩

/-- A good frame is offered to the receive buffer: it joins the end, or finds 4 waiting and is answered OVERRUN (R184). -/
def State.offer (s : State) (f : MlFrame) : State :=
  if s.link.buffer.length < linkPlaces then { s with link := { s.link with buffer := s.link.buffer ++ [f] } }
  else s.addAnswer (f.reply (.overrun, .none))

/-- The state with the media link's receiver in a state. -/
def State.setMlRx (s : State) (rx : Rx) : State := { s with link := { s.link with rx := rx } }

/-- A frame aborted, or whose check fails, is answered with BAD_FRAME, at once if the transmitter is idle (R183 to R185). -/
def State.answerBadFrame (s : State) : State := (s.addAnswer badFrame).chooseIfIdle

/-- A good frame arrives: it is offered to the receive buffer, and an idle transmitter takes it, or the OVERRUN, at once (R184,
R185). -/
def State.arrive (s : State) (f : MlFrame) : State := (s.offer f).chooseIfIdle

/-- What the media link's receiver does at an event of its frame (R183, R184). -/
def State.mlEvent (s : State) : RxEvent MlFrame → State
  | .quiet => s
  | .tooLong => s.answerBadFrame
  | .badCrc => s.answerBadFrame
  | .good f => s.arrive f

/-- One character on MLRX (R183, R184). -/
def State.mlChar (s : State) (c : Byte) : State :=
  (s.setMlRx (mlRxTake s.link.rx c).1).mlEvent (mlRxTake s.link.rx c).2

/-- Characters on MLRX, in order. -/
def State.mlChars (s : State) (chars : List Byte) : State := chars.foldl State.mlChar s

/-- A break or a framing error on MLRX: a frame being assembled is aborted and answered with BAD_FRAME; in HUNTING it is
discarded without an answer (R183). -/
def State.mlAbort (s : State) : State :=
  match s.link.rx with
  | .hunting => s
  | .assembling _ => (s.setMlRx .hunting).answerBadFrame

/-! ### The receiver's and the transmitter's commands -/

/-- ML_BREAK after the characters taken (R182, R183). -/
def execMlBreak (chars : List Byte) (s : State) : Host.Outcome State Fault Refusal :=
  .next (s.ifPowered (fun s => (s.mlChars chars).mlAbort))

/-- ML_FRAMING_ERROR after the characters taken (R182, R183). -/
def execMlFramingError (chars : List Byte) (s : State) : Host.Outcome State Fault Refusal :=
  .next (s.ifPowered (fun s => (s.mlChars chars).mlAbort))

/-- ML_LENGTH_ABORT: the characters taken end in a length byte above 120 (R183). -/
def execMlLengthAbort (chars : List Byte) (s : State) : Host.Outcome State Fault Refusal :=
  .next (s.ifPowered (fun s => s.mlChars chars))

/-- ML_BAD_CRC_FRAME: the characters taken end a frame whose check fails (R184). -/
def execMlBadCrcFrame (chars : List Byte) (s : State) : Host.Outcome State Fault Refusal :=
  .next (s.ifPowered (fun s => s.mlChars chars))

/-- ML_GOOD_FRAME: a frame is complete and its check matches (R184, R185). -/
def execMlGoodFrame (kind tag : Byte) (body : List Byte) (s : State) : Host.Outcome State Fault Refusal :=
  .next (s.ifPowered (fun s => (s.setMlRx .hunting).arrive ⟨kind, tag, body⟩))

/-- TRANSMIT_COMPLETE: the transmitter finishes its frame, or is idle, and chooses its next (R185; log 7, DEDUCED). -/
def execTransmitComplete (s : State) : Host.Outcome State Fault Refusal :=
  .next (s.ifPowered State.transmitNext)

/-- RESTART_TAKES_EFFECT, when the RESTART reply leaves the transmitter, which then chooses its next frame (R195; log 7,
DEDUCED). -/
def execRestartTakesEffect (s : State) : Host.Outcome State Fault Refusal :=
  .next (s.ifPowered (fun s => if s.link.tx.isRestart then s.transmitNext else s))

/-! ### The host's requests -/

/-- A request row: the transmitter is done with its frame and takes what waits, the oldest first; a frame that was not yet in
the buffer then arrives behind it. With nothing waiting the request is taken at once (R184, R185; log 6, DEDUCED). -/
def State.takeMlFrame (s : State) (f : MlFrame) : State :=
  if f ∈ s.link.buffer then s.transmitNext else s.transmitNext.arrive f

/-- A request row of a known kind (R185, R186). -/
def State.takeRequest (s : State) (kind : MlKind) (tag : Byte) (body : List Byte) : State :=
  s.takeMlFrame ⟨kind.code, tag, body⟩

/-- ML_UNKNOWN_REQUEST: a request whose kind is no request kind (R186 step 1); the kind is judged as it is taken (log 10, DESIGN CHOICE). -/
def execMlUnknownRequest (kind tag : Byte) (body : List Byte) (s : State) : Host.Outcome State Fault Refusal :=
  .next (s.ifPowered (fun s => s.takeMlFrame ⟨kind, tag, body⟩))

/-- IDENTIFY (R187). -/
def execIdentify (tag : Byte) (body : List Byte) (s : State) : Host.Outcome State Fault Refusal :=
  .next (s.ifPowered (fun s => s.takeRequest .identify tag body))

/-- STATUS (R188). -/
def execStatus (tag : Byte) (body : List Byte) (s : State) : Host.Outcome State Fault Refusal :=
  .next (s.ifPowered (fun s => s.takeRequest .status tag body))

/-- TUNE (R45). -/
def execTune (tag : Byte) (body : List Byte) (s : State) : Host.Outcome State Fault Refusal :=
  .next (s.ifPowered (fun s => s.takeRequest .tune tag body))

/-- UNTUNE (R46). -/
def execUntune (tag : Byte) (body : List Byte) (s : State) : Host.Outcome State Fault Refusal :=
  .next (s.ifPowered (fun s => s.takeRequest .untune tag body))

/-- SCREEN_REPORT (R63). -/
def execScreenReport (tag : Byte) (body : List Byte) (s : State) : Host.Outcome State Fault Refusal :=
  .next (s.ifPowered (fun s => s.takeRequest .screenReport tag body))

/-- LINEUP_READ (R15). -/
def execLineupRead (tag : Byte) (body : List Byte) (s : State) : Host.Outcome State Fault Refusal :=
  .next (s.ifPowered (fun s => s.takeRequest .lineupRead tag body))

/-- PURCHASE (R113 to R117). -/
def execPurchase (tag : Byte) (body : List Byte) (s : State) : Host.Outcome State Fault Refusal :=
  .next (s.ifPowered (fun s => s.takeRequest .purchase tag body))

/-- CANCEL_RENTAL (R125, R126). -/
def execCancelRental (tag : Byte) (body : List Byte) (s : State) : Host.Outcome State Fault Refusal :=
  .next (s.ifPowered (fun s => s.takeRequest .cancelRental tag body))

/-- RENTALS_READ (R128). -/
def execRentalsRead (tag : Byte) (body : List Byte) (s : State) : Host.Outcome State Fault Refusal :=
  .next (s.ifPowered (fun s => s.takeRequest .rentalsRead tag body))

/-- CHARGES_READ (R161). -/
def execChargesRead (tag : Byte) (body : List Byte) (s : State) : Host.Outcome State Fault Refusal :=
  .next (s.ifPowered (fun s => s.takeRequest .chargesRead tag body))

/-- UNLOCK (R81). -/
def execUnlock (tag : Byte) (body : List Byte) (s : State) : Host.Outcome State Fault Refusal :=
  .next (s.ifPowered (fun s => s.takeRequest .unlock tag body))

/-- RELOCK (R83). -/
def execRelock (tag : Byte) (body : List Byte) (s : State) : Host.Outcome State Fault Refusal :=
  .next (s.ifPowered (fun s => s.takeRequest .relock tag body))

/-- SET_CEILINGS (R85). -/
def execSetCeilings (tag : Byte) (body : List Byte) (s : State) : Host.Outcome State Fault Refusal :=
  .next (s.ifPowered (fun s => s.takeRequest .setCeilings tag body))

/-- SET_PIN (R86). -/
def execSetPin (tag : Byte) (body : List Byte) (s : State) : Host.Outcome State Fault Refusal :=
  .next (s.ifPowered (fun s => s.takeRequest .setPin tag body))

/-- NOTICES_READ (R193). -/
def execNoticesRead (tag : Byte) (body : List Byte) (s : State) : Host.Outcome State Fault Refusal :=
  .next (s.ifPowered (fun s => s.takeRequest .noticesRead tag body))

/-- NOTICE_MODES (R192). -/
def execNoticeModes (tag : Byte) (body : List Byte) (s : State) : Host.Outcome State Fault Refusal :=
  .next (s.ifPowered (fun s => s.takeRequest .noticeModes tag body))

/-- SET_ROOM_ADDRESS (R106). -/
def execSetRoomAddress (tag : Byte) (body : List Byte) (s : State) : Host.Outcome State Fault Refusal :=
  .next (s.ifPowered (fun s => s.takeRequest .setRoomAddress tag body))

/-- RESTART: answered OK; it takes effect when its reply has left (R195). -/
def execRestart (tag : Byte) (body : List Byte) (s : State) : Host.Outcome State Fault Refusal :=
  .next (s.ifPowered (fun s => s.takeRequest .restart tag body))

end Sys2Proof.Machine
end

