-- ==== Sys2Proof/Machine/PropertyLine.lean ====
section
/-! DEFINITION. The Property Line Interface: good frames and addressing (R166, R167), dispatch (R168, R169), the reply (R170 to
R174), the receiver's characters (R163 to R165), and the head-end's commands. -/

namespace Sys2Proof.Machine

/-! ### The command kinds -/

/-- The nineteen command kinds (R168). -/
inductive PlKind where
  | lineupBegin
  | lineupEntry
  | lineupCommit
  | priceSet
  | keyLoad
  | timeSet
  | roomReset
  | checkIn
  | checkOut
  | roomUpdate
  | statusPoll
  | collect
  | confirm
  | decline
  | waive
  | revoke
  | screenShutdown
  | screenRestore
  | pinClear
  deriving DecidableEq, Repr

/-- The kinds in the order of their codes. -/
def plKinds : List PlKind :=
  [.lineupBegin, .lineupEntry, .lineupCommit, .priceSet, .keyLoad, .timeSet, .roomReset, .checkIn, .checkOut,
    .roomUpdate, .statusPoll, .collect, .confirm, .decline, .waive, .revoke, .screenShutdown, .screenRestore, .pinClear]

/-- A kind's code (11.2). -/
def PlKind.code : PlKind → BitVec 6
  | .lineupBegin => 0x01
  | .lineupEntry => 0x02
  | .lineupCommit => 0x03
  | .priceSet => 0x04
  | .keyLoad => 0x05
  | .timeSet => 0x06
  | .roomReset => 0x07
  | .checkIn => 0x10
  | .checkOut => 0x11
  | .roomUpdate => 0x12
  | .statusPoll => 0x13
  | .collect => 0x18
  | .confirm => 0x19
  | .decline => 0x1A
  | .waive => 0x1B
  | .revoke => 0x1C
  | .screenShutdown => 0x20
  | .screenRestore => 0x21
  | .pinClear => 0x22

/-- The kind of a code; the other 45 codes are unknown kinds (11.2). -/
def plKindOf (code : BitVec 6) : Option PlKind := plKinds.find? (fun k => k.code = code)

/-- The one body length of a kind (11.2). -/
def PlKind.bodyLength : PlKind → Nat
  | .lineupBegin => 1
  | .lineupEntry => 18
  | .lineupCommit => 3
  | .priceSet => 6
  | .keyLoad => 14
  | .timeSet => 4
  | .roomReset => 0
  | .checkIn => 34
  | .checkOut => 0
  | .roomUpdate => 26
  | .statusPoll => 0
  | .collect => 0
  | .confirm => 2
  | .decline => 2
  | .waive => 2
  | .revoke => 2
  | .screenShutdown => 1
  | .screenRestore => 1
  | .pinClear => 0

/-- Whether a kind may be broadcast (R168). -/
def PlKind.mayBroadcast : PlKind → Bool
  | .lineupBegin | .lineupEntry | .lineupCommit | .priceSet | .keyLoad | .timeSet | .roomReset => true
  | _ => false

/-! ### What each kind does -/

/-- ROOM_RESET: the screens put back, then the four latched flags cleared (R66, R177). -/
def State.resetRoom (s : State) : State := s.resetScreens.latch (fun _ => .clear)

/-- The screens a mask names, in screen order (R60). -/
def maskScreens (body : List Byte) : List Screen := screens.filter (maskNames body)

/-- A command of a known kind with a right body, handed to its owner (R168 step 4): the state after it and the answer
its reply carries. `order` is the order of a TIME_SET's tests. -/
def State.plAct (s : State) (kind : PlKind) (body : List Byte) (order : List ClockTask) : State × FolioAnswer :=
  match kind with
  | .lineupBegin => (s.beginLineup (generationOf (field body 0 1)), .none)
  | .lineupEntry => (s.stageEntry (lineupEntryOf body), .none)
  | .lineupCommit => (s.commitLineup (generationOf (field body 0 1)) (field body 1 2), .none)
  | .priceSet => (s.setPrice (priceCodeOf (field body 0 1)) (priceEntryOf body), .none)
  | .keyLoad => (s.loadKey (keyLoadOf body), .none)
  | .timeSet => (s.setTime (field body 0 4) order, .none)
  | .roomReset => (s.resetRoom, .none)
  | .checkIn => (s.checkInRoom (checkInOf body), .none)
  | .checkOut => (s.checkOutRoom, .none)
  | .roomUpdate => (s.updateRoom (stayTermsOf body), .none)
  | .statusPoll => (s, .none)
  | .collect => (s.collectHead, .none)
  | .confirm => s.confirmCharge (field body 0 2)
  | .decline => s.declineCharge (field body 0 2)
  | .waive => s.waiveCharge (field body 0 2)
  | .revoke => s.revokeCharge (field body 0 2)
  | .screenShutdown => (s.shutdownScreens true (maskScreens body), .none)
  | .screenRestore => (s.shutdownScreens false (maskScreens body), .none)
  | .pinClear => (s.changePin none, .none)

/-! ### Receiving a good frame -/

/-- What a good frame's address makes it for this room (R167). -/
inductive Matched where
  | broadcast
  | addressed
  | notForRoom
  deriving DecidableEq, Repr

/-- A frame's address matched against the room address; frame address 0 names no room (R167). -/
def matchAddress (frame room : Nat) : Matched :=
  if frame = broadcastAddress then .broadcast
  else if frame = 0 then .notForRoom
  else if frame = room then .addressed
  else .notForRoom

/-- Every good frame restarts the silence count and makes the line UP, with a LINE notice if it was DOWN (R166, R179). A
reply built and not yet driven was abandoned at the frame's first start bit (R170; log 8, DEDUCED). -/
def State.hearFrame (s : State) : State :=
  let s1 := { s with line := { s.line with rx := .hunting, reply := .none, silence := 0, up := true } }
  if s.line.up then s1 else s1.raiseLine

/-- The usual reply, from the state as the command left it (R170, R171). -/
def State.replyTo (s : State) (address : Nat) (kind : PlKind) (answer : FolioAnswer) : PlReply :=
  { address := address
    flags := ⟨s.line.latched, !s.charges.entries.isEmpty, s.held, s.room.retentionLost, answer⟩
    occupancy := s.room.occupancy
    session := s.room.session
    queueLength := s.queueLength
    generation := s.lineup.generation
    entry := if kind = .collect then s.queueHead else none }

/-- The state with the reply to an addressed command built (R170; log 34, DEDUCED). -/
def State.buildReply (s : State) (address : Nat) (kind : PlKind) (answer : FolioAnswer) : State :=
  { s with line := { s.line with reply := .built (s.replyTo address kind answer) } }

/-- A broadcast of a known kind (R168, steps 2 to 5). -/
def State.takeBroadcast (s : State) (kind : PlKind) (body : List Byte) (order : List ClockTask) : State :=
  if kind.mayBroadcast ∧ body.length = kind.bodyLength then (s.plAct kind body order).1.latchBroadcastSeen
  else s.latchMessageError.latchBroadcastSeen

/-- An addressed command of a known kind (R168, steps 3, 4 and 6). -/
def State.takeAddressed (s : State) (address : Nat) (kind : PlKind) (body : List Byte) (order : List ClockTask) : State :=
  if body.length = kind.bodyLength then
    (s.plAct kind body order).1.buildReply address kind (s.plAct kind body order).2
  else s.latchMessageError

/-- A good frame of a known kind: heard, matched and dispatched (R166 to R169). -/
def State.takeCommand (s : State) (address : Nat) (kind : PlKind) (body : List Byte) (order : List ClockTask) : State :=
  match matchAddress address s.room.address with
  | .notForRoom => s.hearFrame
  | .broadcast => s.hearFrame.takeBroadcast kind body order
  | .addressed => s.hearFrame.takeAddressed address kind body order

/-- A good frame of any kind: an unknown kind is heard and dropped (R168 step 1). -/
def State.takeFrame (s : State) (f : PlFrame) (order : List ClockTask) : State :=
  match plKindOf f.kind with
  | none => s.hearFrame
  | some kind => s.takeCommand f.address.toNat kind f.body order

/-- Whether the receiver takes characters: the part has its supply and PLDE is not asserted (R163). -/
def State.listening (s : State) : Bool := s.powered && !s.plde

/-- A good frame that the receiver was listening to. -/
def State.plFrame (s : State) (f : PlFrame) (order : List ClockTask) : State :=
  if s.listening then s.takeFrame f order else s

/-! ### Characters -/

/-- A reply built and not yet driven is abandoned at a start bit; its flags stay latched (R170). -/
def State.abandonReply (s : State) : State :=
  match s.line.reply with
  | .built _ => { s with line := { s.line with reply := .none } }
  | _ => s

/-- The state with the property line's receiver in a state. -/
def State.setPlRx (s : State) (rx : Rx) : State := { s with line := { s.line with rx := rx } }

/-- One character on the property line (R163, R165, R166, R170). -/
def State.plChar (s : State) (c : Byte) : State :=
  if s.listening then
    let (rx, event) := plRxTake s.line.rx c
    let s1 := s.abandonReply.setPlRx rx
    match event with
    | .good f => s1.takeFrame f []
    | _ => s1
  else s

/-- Characters on the property line, in order. -/
def State.plChars (s : State) (chars : List Byte) : State := chars.foldl State.plChar s

/-- A break, or a character with a bad stop bit: any frame being assembled is aborted (R163, R164). In HUNTING too the line's
fall to 0 is the start bit that abandons a reply not yet driven (R170), where R164 gives such a break no effect (log 41,
DEDUCED). -/
def State.plAbort (s : State) : State := if s.listening then s.abandonReply.setPlRx .hunting else s

/-! ### The commands -/

/-- PL_BREAK after the characters taken (R164). -/
def execPlBreak (chars : List Byte) (s : State) : Host.Outcome State Fault Refusal :=
  .next (s.plChars chars).plAbort

/-- PL_FRAMING_ERROR after the characters taken (R163). -/
def execPlFramingError (chars : List Byte) (s : State) : Host.Outcome State Fault Refusal :=
  .next (s.plChars chars).plAbort

/-- PL_BODY_COUNT_ABORT: the characters taken end in a body count above 48 (R165). -/
def execPlBodyCountAbort (chars : List Byte) (s : State) : Host.Outcome State Fault Refusal :=
  .next (s.plChars chars)

/-- PL_BAD_CRC_FRAME: the characters taken end a frame whose check fails (R166). -/
def execPlBadCrcFrame (chars : List Byte) (s : State) : Host.Outcome State Fault Refusal :=
  .next (s.plChars chars)

/-- FRAME_NOT_FOR_ROOM (R167; log 10, DESIGN CHOICE). -/
def execFrameNotForRoom (address : BitVec 10) (kind : BitVec 6) (body : List Byte) (s : State) :
    Host.Outcome State Fault Refusal :=
  .next (s.plFrame ⟨address, kind, body⟩ [])

/-- PL_UNKNOWN_KIND (R168 step 1; log 10, DESIGN CHOICE). -/
def execPlUnknownKind (address : BitVec 10) (kind : BitVec 6) (body : List Byte) (s : State) :
    Host.Outcome State Fault Refusal :=
  .next (s.plFrame ⟨address, kind, body⟩ [])

/-- A command frame of a known kind that the receiver was listening to. -/
def State.plCommand (s : State) (kind : PlKind) (address : BitVec 10) (body : List Byte) (order : List ClockTask) : State :=
  if s.listening then s.takeCommand address.toNat kind body order else s

/-- LINEUP_BEGIN (R5). -/
def execLineupBegin (address : BitVec 10) (body : List Byte) (s : State) : Host.Outcome State Fault Refusal :=
  .next (s.plCommand .lineupBegin address body [])

/-- LINEUP_ENTRY (R6 to R9). -/
def execLineupEntry (address : BitVec 10) (body : List Byte) (s : State) : Host.Outcome State Fault Refusal :=
  .next (s.plCommand .lineupEntry address body [])

/-- LINEUP_COMMIT (R9 to R12). -/
def execLineupCommit (address : BitVec 10) (body : List Byte) (s : State) : Host.Outcome State Fault Refusal :=
  .next (s.plCommand .lineupCommit address body [])

/-- PRICE_SET (R17). -/
def execPriceSet (address : BitVec 10) (body : List Byte) (s : State) : Host.Outcome State Fault Refusal :=
  .next (s.plCommand .priceSet address body [])

/-- KEY_LOAD (R21 to R23). -/
def execKeyLoad (address : BitVec 10) (body : List Byte) (s : State) : Host.Outcome State Fault Refusal :=
  .next (s.plCommand .keyLoad address body [])

/-- TIME_SET (R175, R176). -/
def execTimeSet (address : BitVec 10) (body : List Byte) (order : List ClockTask) (s : State) :
    Host.Outcome State Fault Refusal :=
  .next (s.plCommand .timeSet address body order)

/-- ROOM_RESET (R66, R177). -/
def execRoomReset (address : BitVec 10) (body : List Byte) (s : State) : Host.Outcome State Fault Refusal :=
  .next (s.plCommand .roomReset address body [])

/-- CHECK_IN (R92 to R95). -/
def execCheckIn (address : BitVec 10) (body : List Byte) (s : State) : Host.Outcome State Fault Refusal :=
  .next (s.plCommand .checkIn address body [])

/-- CHECK_OUT (R96, R97). -/
def execCheckOut (address : BitVec 10) (body : List Byte) (s : State) : Host.Outcome State Fault Refusal :=
  .next (s.plCommand .checkOut address body [])

/-- ROOM_UPDATE (R98). -/
def execRoomUpdate (address : BitVec 10) (body : List Byte) (s : State) : Host.Outcome State Fault Refusal :=
  .next (s.plCommand .roomUpdate address body [])

/-- STATUS_POLL (R174). -/
def execStatusPoll (address : BitVec 10) (body : List Byte) (s : State) : Host.Outcome State Fault Refusal :=
  .next (s.plCommand .statusPoll address body [])

/-- COLLECT (R150). -/
def execCollect (address : BitVec 10) (body : List Byte) (s : State) : Host.Outcome State Fault Refusal :=
  .next (s.plCommand .collect address body [])

/-- CONFIRM (R151). -/
def execConfirm (address : BitVec 10) (body : List Byte) (s : State) : Host.Outcome State Fault Refusal :=
  .next (s.plCommand .confirm address body [])

/-- DECLINE (R152). -/
def execDecline (address : BitVec 10) (body : List Byte) (s : State) : Host.Outcome State Fault Refusal :=
  .next (s.plCommand .decline address body [])

/-- WAIVE (R153). -/
def execWaive (address : BitVec 10) (body : List Byte) (s : State) : Host.Outcome State Fault Refusal :=
  .next (s.plCommand .waive address body [])

/-- REVOKE (R154). -/
def execRevoke (address : BitVec 10) (body : List Byte) (s : State) : Host.Outcome State Fault Refusal :=
  .next (s.plCommand .revoke address body [])

/-- SCREEN_SHUTDOWN (R60). -/
def execScreenShutdown (address : BitVec 10) (body : List Byte) (s : State) : Host.Outcome State Fault Refusal :=
  .next (s.plCommand .screenShutdown address body [])

/-- SCREEN_RESTORE (R60). -/
def execScreenRestore (address : BitVec 10) (body : List Byte) (s : State) : Host.Outcome State Fault Refusal :=
  .next (s.plCommand .screenRestore address body [])

/-- PIN_CLEAR (R77, R178). -/
def execPinClear (address : BitVec 10) (body : List Byte) (s : State) : Host.Outcome State Fault Refusal :=
  .next (s.plCommand .pinClear address body [])

/-- PL_REPLY_SEND: the room begins to drive the reply built, which clears the four latched flags (R170, R172). -/
def execPlReplySend (s : State) : Host.Outcome State Fault Refusal :=
  .next (s.ifPowered (fun s =>
    match s.line.reply with
    | .built r => { s with line := { s.line with reply := .driving r, latched := .clear } }
    | _ => s))

/-- REPLY_ABANDONED: a start bit before the room drives the line, and the character it begins (R170). -/
def execReplyAbandoned (char : Byte) (s : State) : Host.Outcome State Fault Refusal :=
  .next (s.plChar char)

/-- PL_REPLY_COMPLETE: PLDE is released and the receiver takes characters again (R163). -/
def execPlReplyComplete (s : State) : Host.Outcome State Fault Refusal :=
  .next (s.ifPowered (fun s =>
    match s.line.reply with
    | .driving _ => { s with line := { s.line with reply := .none } }
    | _ => s))

end Sys2Proof.Machine
end

