-- ==== Sys2Proof/Machine/Dispatch.lean ====
section
/-! DEFINITION. The meaning of every command: one arm for each row of spec/opcode_table.json. -/

namespace Sys2Proof.Machine

def exec (i : Instr) (s : State) : Host.Outcome State Fault Refusal :=
  match i with
  | .powerOn retentionGood order => Sys2Proof.Machine.execPowerOn retentionGood order s
  | .resetPin hold order => Sys2Proof.Machine.execResetPin hold order s
  | .runTick order => Sys2Proof.Machine.execRunTick order s
  | .previewExpiry lane => Sys2Proof.Machine.execPreviewExpiry lane s
  | .unlockExpiry screen => Sys2Proof.Machine.execUnlockExpiry screen s
  | .lockoutEnd => Sys2Proof.Machine.execLockoutEnd s
  | .lineDown => Sys2Proof.Machine.execLineDown s
  | .roomClockSecond order => Sys2Proof.Machine.execRoomClockSecond order s
  | .keyExpiry slot parity => Sys2Proof.Machine.execKeyExpiry slot parity s
  | .rentalExpiry index => Sys2Proof.Machine.execRentalExpiry index s
  | .eventWindowEdge service => Sys2Proof.Machine.execEventWindowEdge service s
  | .capPeriodRollover => Sys2Proof.Machine.execCapPeriodRollover s
  | .clearCell lane service continuity epoch payload => Sys2Proof.Machine.execClearCell lane service continuity epoch payload s
  | .scrambledCell lane parity service continuity epoch payload => Sys2Proof.Machine.execScrambledCell lane parity service continuity epoch payload s
  | .ratingCell lane service continuity epoch payload => Sys2Proof.Machine.execRatingCell lane service continuity epoch payload s
  | .plBreak chars => Sys2Proof.Machine.execPlBreak chars s
  | .plFramingError chars => Sys2Proof.Machine.execPlFramingError chars s
  | .plBodyCountAbort chars => Sys2Proof.Machine.execPlBodyCountAbort chars s
  | .plBadCrcFrame chars => Sys2Proof.Machine.execPlBadCrcFrame chars s
  | .frameNotForRoom address kind body => Sys2Proof.Machine.execFrameNotForRoom address kind body s
  | .plUnknownKind address kind body => Sys2Proof.Machine.execPlUnknownKind address kind body s
  | .lineupBegin address body => Sys2Proof.Machine.execLineupBegin address body s
  | .lineupEntry address body => Sys2Proof.Machine.execLineupEntry address body s
  | .lineupCommit address body => Sys2Proof.Machine.execLineupCommit address body s
  | .priceSet address body => Sys2Proof.Machine.execPriceSet address body s
  | .keyLoad address body => Sys2Proof.Machine.execKeyLoad address body s
  | .timeSet address body order => Sys2Proof.Machine.execTimeSet address body order s
  | .roomReset address body => Sys2Proof.Machine.execRoomReset address body s
  | .checkIn address body => Sys2Proof.Machine.execCheckIn address body s
  | .checkOut address body => Sys2Proof.Machine.execCheckOut address body s
  | .roomUpdate address body => Sys2Proof.Machine.execRoomUpdate address body s
  | .statusPoll address body => Sys2Proof.Machine.execStatusPoll address body s
  | .collect address body => Sys2Proof.Machine.execCollect address body s
  | .confirm address body => Sys2Proof.Machine.execConfirm address body s
  | .decline address body => Sys2Proof.Machine.execDecline address body s
  | .waive address body => Sys2Proof.Machine.execWaive address body s
  | .revoke address body => Sys2Proof.Machine.execRevoke address body s
  | .screenShutdown address body => Sys2Proof.Machine.execScreenShutdown address body s
  | .screenRestore address body => Sys2Proof.Machine.execScreenRestore address body s
  | .pinClear address body => Sys2Proof.Machine.execPinClear address body s
  | .plReplySend => Sys2Proof.Machine.execPlReplySend s
  | .replyAbandoned char => Sys2Proof.Machine.execReplyAbandoned char s
  | .mlBreak chars => Sys2Proof.Machine.execMlBreak chars s
  | .mlFramingError chars => Sys2Proof.Machine.execMlFramingError chars s
  | .mlLengthAbort chars => Sys2Proof.Machine.execMlLengthAbort chars s
  | .mlBadCrcFrame chars => Sys2Proof.Machine.execMlBadCrcFrame chars s
  | .mlGoodFrame kind tag body => Sys2Proof.Machine.execMlGoodFrame kind tag body s
  | .transmitComplete => Sys2Proof.Machine.execTransmitComplete s
  | .mlUnknownRequest kind tag body => Sys2Proof.Machine.execMlUnknownRequest kind tag body s
  | .identify tag body => Sys2Proof.Machine.execIdentify tag body s
  | .status tag body => Sys2Proof.Machine.execStatus tag body s
  | .tune tag body => Sys2Proof.Machine.execTune tag body s
  | .untune tag body => Sys2Proof.Machine.execUntune tag body s
  | .screenReport tag body => Sys2Proof.Machine.execScreenReport tag body s
  | .lineupRead tag body => Sys2Proof.Machine.execLineupRead tag body s
  | .purchase tag body => Sys2Proof.Machine.execPurchase tag body s
  | .cancelRental tag body => Sys2Proof.Machine.execCancelRental tag body s
  | .rentalsRead tag body => Sys2Proof.Machine.execRentalsRead tag body s
  | .chargesRead tag body => Sys2Proof.Machine.execChargesRead tag body s
  | .unlock tag body => Sys2Proof.Machine.execUnlock tag body s
  | .relock tag body => Sys2Proof.Machine.execRelock tag body s
  | .setCeilings tag body => Sys2Proof.Machine.execSetCeilings tag body s
  | .setPin tag body => Sys2Proof.Machine.execSetPin tag body s
  | .noticesRead tag body => Sys2Proof.Machine.execNoticesRead tag body s
  | .noticeModes tag body => Sys2Proof.Machine.execNoticeModes tag body s
  | .setRoomAddress tag body => Sys2Proof.Machine.execSetRoomAddress tag body s
  | .restart tag body => Sys2Proof.Machine.execRestart tag body s
  | .restartTakesEffect => Sys2Proof.Machine.execRestartTakesEffect s
  | .powerLoss => Sys2Proof.Machine.execPowerLoss s
  | .plReplyComplete => Sys2Proof.Machine.execPlReplyComplete s

end Sys2Proof.Machine
end

