-- ==== Sys2Proof/Config.lean ====
section
/-! DEFINITION. The free values: bytes the spec obliges the part to send without stating their value. They have no
body, so no proof can lean on one; a claim about a reply's bytes is true whatever they are. -/

namespace Sys2Proof

/-- FREE VALUE. The byte sent in place of a yes-or-no field that its rule leaves out (the loaded flag of a FREE or
PACKAGE service in a LINEUP_READ reply, and both flags of a service that is not in the line-up). R200 calls for "the absent value of its type"; 11.6 gives that type none (log 21, DESIGN CHOICE). -/
opaque Config.absentYesNo : Byte

/-- FREE VALUE. The byte sent in place of a blocked mask that its rule leaves out (a LANE snapshot whose reason is not
LOCKED, a screen report of an untuned lane). 11.6 gives that type no absent value (log 21, DESIGN CHOICE). -/
opaque Config.absentMask : Byte

/-- FREE VALUE. The four bytes sent in place of a rating quad that its rule leaves out (a LINEUP_READ reply for a service that
is not in the line-up). 11.6 gives that type no absent value (log 21, DESIGN CHOICE). -/
opaque Config.absentQuad : BitVec 32

/-- FREE VALUE. What the four bytes of a room-clock number carry when the number does not fit them, which only the end
of a cap period that starts on the last day of the clock can do (R100, R107, R188; log 25, DESIGN CHOICE). -/
opaque Config.wideCount : Nat → BitVec 32

end Sys2Proof
end

