-- ==== Sys2Proof/Machine/Encoding.lean ====
section
/-! DEFINITION. The bytes the part sends: property line replies and queue entries (11.3), media link replies (11.5), reply bodies
and notice records by the encoding of 11.6 (R200). Named values are numbered in the order of their defining tables (log 23, DEDUCED). -/

namespace Sys2Proof.Machine

/-! ### Field types (11.6) -/

/-- A number of so many bytes. -/
abbrev num (len n : Nat) : List Byte := beBytes len n

/-- A number that may be absent: all bits 1. -/
def numOpt (len : Nat) : Option Nat → List Byte
  | some n => num len n
  | none => List.replicate len 0xFF

/-- A service, charge or session number that may be absent: 0. -/
def idOpt : Option Nat → List Byte
  | some n => num 2 n
  | none => num 2 0

/-- A named value. -/
abbrev named (n : Nat) : List Byte := [BitVec.ofNat 8 n]

/-- A named value that is absent. -/
abbrev namedAbsent : List Byte := [0xFF]

/-- A named value that may be absent. -/
def namedOpt : Option Nat → List Byte
  | some n => named n
  | none => namedAbsent

/-- Yes or no, set or clear, shown or not shown: 1 for yes, set and shown (log 45, PRESUMED). -/
def yesNo (b : Bool) : List Byte := [if b then 1 else 0]

/-- Yes or no that may be absent; its byte is then free (log 21, DESIGN CHOICE). -/
def yesNoOpt : Option Bool → List Byte
  | some b => yesNo b
  | none => [Config.absentYesNo]

/-- A quad: age, violence, language, sexual content. -/
def quad (r : Rating) : List Byte := num 1 r.age ++ num 1 r.violence ++ num 1 r.language ++ num 1 r.sexual

/-- A quad that may be absent; its bytes are then free (log 21, DESIGN CHOICE). -/
def quadOpt : Option Rating → List Byte
  | some r => quad r
  | none => num 4 Config.absentQuad.toNat

/-- A blocked mask: bit 3 age, bit 2 violence, bit 1 language, bit 0 sexual content. -/
def maskBytes (m : Mask) : List Byte := [BitVec.ofNat 8 (bitsNat [m.sexual, m.language, m.violence, m.age])]

/-- A blocked mask that may be absent; its byte is then free (log 21, DESIGN CHOICE). -/
def maskOpt : Option Mask → List Byte
  | some m => maskBytes m
  | none => [Config.absentMask]

/-- A set of screens: bit n for screen n. -/
def screenSet (set : List Screen) : List Byte := [BitVec.ofNat 8 (bitsNat (screens.map (fun n => set.contains n)))]

/-- The four 2-bit places of an ordered list of screens, oldest in bits 7..6. -/
def screenPlaces : (places : Nat) → List Screen → Nat
  | 0, _ => 0
  | places + 1, [] => 4 * screenPlaces places []
  | places + 1, n :: rest => n.val * 4 ^ places + screenPlaces places rest

/-- An ordered list of screens: the count, then four 2-bit places. -/
def screenList (list : List Screen) : List Byte := num 1 list.length ++ [BitVec.ofNat 8 (screenPlaces 4 list)]

/-- A list of records or numbers: a count byte, then the items. -/
def counted {α : Type} (item : α → List Byte) (list : List α) : List Byte := num 1 list.length ++ list.flatMap item

/-- Room-clock seconds. A count that does not fit four bytes is carried in a form left free (log 25, DESIGN CHOICE). -/
def roomTime (t : Nat) : List Byte := if t ≤ maxCount then num 4 t else num 4 (Config.wideCount t).toNat

/-- Room-clock seconds that may be absent. -/
def roomTimeOpt : Option Nat → List Byte
  | some t => roomTime t
  | none => numOpt 4 none

/-! ### Named values -/

/-- VACANT, OCCUPIED, CLOSING (R89). -/
def Occupancy.code : Occupancy → Nat
  | .vacant => 0
  | .occupied => 1
  | .closing => 2

/-- OFF, OPEN, PREVIEW, BLANK (R42). -/
def LaneState.code : LaneState → Nat
  | .off => 0
  | .opened => 1
  | .preview => 2
  | .blank _ => 3

/-- SHUTDOWN to PURCHASE_NEEDED (R42). -/
def BlankReason.code : BlankReason → Nat
  | .shutdown => 0
  | .unknownService => 1
  | .vacant => 2
  | .adultBarred => 3
  | .locked => 4
  | .notEntitled => 5
  | .offAir => 6
  | .seatWait => 7
  | .purchaseNeeded => 8

/-- The blank reason of a lane state, present in BLANK alone (R62). -/
def LaneState.reasonBytes : LaneState → List Byte
  | .blank reason => named reason.code
  | _ => namedAbsent

/-- FREE, PACKAGE, FILM, EVENT (R1). -/
def Terms.code : Terms → Nat
  | .free => 0
  | .package _ => 1
  | .film _ _ => 2
  | .event _ _ _ _ => 3

/-- FILM, EVENT (R110). -/
def RentalKind.code : RentalKind → Nat
  | .film => 0
  | .event => 1

/-- WAITING, OFFERED, DECLINED (11.3). -/
def ChargeState.code : ChargeState → Nat
  | .waiting => 0
  | .offered => 1
  | .declined => 2

/-- IDLE, FILLING, OVERFULL (section 1.3). -/
def Staging.code : Staging → Nat
  | .idle => 0
  | .filling _ => 1
  | .overfull _ => 2

/-- WARM, COLD (R187). -/
def StartKind.code : StartKind → Nat
  | .warm => 0
  | .cold => 1

/-- WARM, COLD, RESTART (R197). -/
def Origin.code : Origin → Nat
  | .warm => 0
  | .cold => 1
  | .restart => 2

/-- FIRST, FORWARD, BACKWARD, NONE (R176). -/
def Jump.code : Jump → Nat
  | .first => 0
  | .forward => 1
  | .backward => 2
  | .none => 3

/-- EVERY, FIRST, FAULT_ONLY, OFF (R191, R199). -/
def NoticeMode.code : NoticeMode → Nat
  | .every => 0
  | .first => 1
  | .faultOnly => 2
  | .off => 3

/-- UP, DOWN (R179). -/
def lineCode (up : Bool) : Nat := if up then 0 else 1

/-- SET, NONE of a room PIN (R78). -/
def pinCode (isSet : Bool) : Nat := if isSet then 0 else 1

/-- UNSET, SET of the room clock (R90, R188). -/
def clockCode (isSet : Bool) : Nat := if isSet then 1 else 0

/-- The result codes (11.5). -/
def Result.code : Result → Nat
  | .ok => 0
  | .already => 1
  | .overrun => 2
  | .badFrame => 3
  | .unknownRequest => 4
  | .badLength => 5
  | .badScreen => 6
  | .unknownService => 7
  | .noService => 8
  | .notOccupied => 9
  | .notVacant => 10
  | .clockUnset => 11
  | .notForSale => 12
  | .outsideWindow => 13
  | .priceUnknown => 14
  | .billingHeld => 15
  | .rateLimit => 16
  | .pinRequired => 17
  | .pinWrong => 18
  | .pinLocked => 19
  | .adultBarred => 20
  | .contentLocked => 21
  | .creditFull => 22
  | .spendLimit => 23
  | .rentalsFull => 24
  | .noRental => 25
  | .cancelTooLate => 26
  | .queueFull => 27

/-! ### The property line's reply -/

/-- A queue entry (11.3): bit 7 of the first byte is the kind and bits 1..0 the state; refers-to is 0 in a CHARGE. -/
def QueueEntry.bytes (e : QueueEntry) : List Byte :=
  let kindBit := match e.kind with
    | .charge => 0
    | .credit _ => 128
  let refers := match e.kind with
    | .charge => 0
    | .credit n => n
  num 1 (kindBit + e.state.code) ++ num 2 e.number ++ num 2 e.session ++ num 2 e.service ++ num 4 e.amount ++
    num 2 e.tax ++ num 4 e.stamp ++ num 2 refers

/-- A reply after its lead byte and before its check (11.3). -/
def PlReply.content (r : PlReply) : List Byte :=
  num 2 r.address ++ num 2 r.flags.word.toNat ++ named r.occupancy.code ++ num 2 r.session ++ num 1 r.queueLength ++
    num 1 r.generation ++ (match r.entry with
      | some e => e.bytes
      | none => [])

/-- The bytes of a reply on the property line (R171, 11.3). -/
def PlReply.bytes (r : PlReply) : List Byte := plReplyLead :: (r.content ++ crcBytes r.content)

/-! ### Snapshots and notices -/

/-- The seat fields: the rental's index, HOLDING or WAITING as R42 numbers them, and the place in the waiting list (R62). -/
def seatBytes : Option SeatView → List Byte
  | none => numOpt 1 none ++ namedAbsent ++ numOpt 1 none
  | some (.holding index) => num 1 index.val ++ named 1 ++ numOpt 1 none
  | some (.waiting index place) => num 1 index.val ++ named 2 ++ num 1 place

/-- A LANE snapshot (R62). -/
def LaneView.bytes (v : LaneView) : List Byte :=
  num 1 v.screen.val ++ idOpt v.tuned ++ named v.state.code ++ v.state.reasonBytes ++ yesNo v.keyMiss ++
    maskOpt v.mask ++ seatBytes v.seat ++ numOpt 2 v.previewLeft

/-- One rental of a RENTALS snapshot (R129). -/
def RentalBrief.bytes (r : RentalBrief) : List Byte := num 1 r.index.val ++ num 2 r.service ++ num 4 r.stop

/-- A BILLING snapshot (R156). -/
def billingBytes (held : Option HeldView) (queueLength : Nat) : List Byte :=
  yesNo held.isSome ++ idOpt (held.map (·.number)) ++ idOpt (held.map (·.session)) ++ idOpt (held.map (·.service)) ++
    numOpt 4 (held.map (·.amount)) ++ num 1 queueLength

/-- A ROOM snapshot (R107); the adult permit is sent as a yes-or-no byte, on as 1 (log 46, DEDUCED). -/
def RoomView.bytes (v : RoomView) : List Byte :=
  num 2 v.address ++ named v.occupancy.code ++ num 2 v.session ++ num 2 v.packages.toNat ++ yesNo v.adult ++
    num 4 v.spendLimit ++ num 4 v.spend ++ num 4 v.cap ++ num 4 v.billed ++ roomTimeOpt v.periodEnd ++
    yesNo v.retentionLost

/-- A PIN snapshot (R78). -/
def PinView.bytes (v : PinView) : List Byte :=
  named (pinCode v.isSet) ++ num 1 v.failures ++ yesNo v.lockout ++ numOpt 2 v.secondsLeft

/-- A START snapshot (R197). -/
def StartView.bytes (v : StartView) : List Byte :=
  named v.origin.code ++ yesNo v.retentionLost ++ num 2 v.address ++ named v.occupancy.code ++ num 2 v.session ++
    num 1 v.queueLength ++ yesNo v.held ++ num 1 v.rentals ++ named (pinCode v.pinSet) ++ named (lineCode v.lineUp) ++
    num 1 v.generation

/-- A snapshot by its kind (R190, R200). -/
def Snapshot.bytes : Snapshot → List Byte
  | .lane v => v.bytes
  | .rentals list => counted RentalBrief.bytes list
  | .billing held length => billingBytes held length
  | .room v => v.bytes
  | .pin v => v.bytes
  | .line up run => named (lineCode up) ++ num 4 run
  | .clock time jump => num 4 time ++ named jump.code
  | .lineup generation entries => num 1 generation ++ num 2 entries
  | .start v => v.bytes

/-- The kind of a pair, 0 LANE to 8 START in the order of R189 (11.6). -/
def NoticePair.kindCode : NoticePair → Nat
  | .lane _ => 0
  | .rentals => 1
  | .billing => 2
  | .room => 3
  | .pin => 4
  | .line => 5
  | .clock => 6
  | .lineup => 7
  | .start => 8

/-- The source of a pair: the screen for LANE, 0 for the others (11.6). -/
def NoticePair.source : NoticePair → Nat
  | .lane n => n.val
  | _ => 0

/-- A notice record (11.6). -/
def Notice.bytes (n : Notice) : List Byte :=
  num 1 n.pair.kindCode ++ num 1 n.pair.source ++ num 1 n.raises ++ num 1 n.snapshot.bytes.length ++ n.snapshot.bytes

/-! ### Reply bodies -/

/-- A screen report (R63). -/
def ScreenReport.bytes (r : ScreenReport) : List Byte :=
  num 1 r.screen.val ++ idOpt r.tuned ++ named r.state.code ++ r.state.reasonBytes ++ yesNo r.keyMiss ++ quad r.rating ++
    maskOpt r.mask ++ yesNo r.shutdown ++ seatBytes r.seat ++ numOpt 2 r.previewLeft ++
    idOpt (r.unlock.map (·.service)) ++ numOpt 2 (r.unlock.map (·.stop))

/-- The ten characters of the part's name in an IDENTIFY reply (R187). -/
def partName : List Byte := [0x52, 0x65, 0x6E, 0x64, 0x61, 0x6B, 0x20, 0x36, 0x34, 0x30]

/-- The capacities of an IDENTIFY reply: lanes, line-up entries, price entries, key slots, rentals, queue entries, notice
places, receive buffer and largest request body (R187, log 24, DEDUCED). -/
def capacityBytes : List Byte :=
  num 1 4 ++ num 2 lineupCapacity ++ num 1 32 ++ num 1 16 ++ num 1 rentalCapacity ++ num 1 queueCapacity ++ num 1 12 ++
    num 1 linkPlaces ++ num 1 mlBodyLimit

/-- The body of an IDENTIFY reply (R187): the name as text, the revision 1, the last start, the run seconds, the capacities. -/
def IdentifyReport.bytes (r : IdentifyReport) : List Byte :=
  counted (fun b => [b]) partName ++ num 1 1 ++ named r.lastStart.code ++ num 4 r.run ++ capacityBytes

/-- The terms of STATUS (R188); the adult permit is sent as a yes-or-no byte, on as 1 (log 46, DEDUCED). -/
def StayTerms.bytes (t : StayTerms) : List Byte :=
  num 2 t.packages.toNat ++ yesNo t.adult ++ num 4 t.spendLimit ++ num 4 t.cap ++ num 4 t.capReset ++
    num 2 t.rateFactor ++ num 2 t.tax ++ yesNo t.pinOnPurchase ++ num 1 t.rateCount ++ num 4 t.rateWindow ++
    num 2 t.unlockHold

/-- The body of a STATUS reply, in the order of the table of R188. -/
def StatusReport.bytes (r : StatusReport) : List Byte :=
  (num 2 r.address ++ named r.occupancy.code ++ num 2 r.session ++ yesNo r.retentionLost) ++
  r.terms.bytes ++
  (num 4 r.spend ++ named (if r.period.isSome then 1 else 0) ++ roomTimeOpt (r.period.map (·.start)) ++
    roomTimeOpt (r.period.map (·.stop)) ++ num 4 r.billed) ++
  (num 1 r.instants ++ num 1 r.recent ++ counted (num 2) r.previewUsed) ++
  (r.pin.bytes ++ r.ceilings.toList.flatMap quad) ++
  (named (clockCode r.clockSet) ++ num 4 r.clock ++ num 4 r.run) ++
  (num 1 r.generation ++ num 2 r.entries ++ named r.staging.code) ++
  (named (lineCode r.lineUp) ++ num 2 r.silence) ++
  (num 1 r.rentals ++ num 1 r.queueLength ++ yesNo r.held) ++
  num 1 r.notices

/-- The package number of an entry. -/
def Terms.packageNumber : Terms → Option Nat
  | .package n => some n
  | _ => none

/-- The price code of an entry (R1). -/
def Terms.priceCode : Terms → Option Nat
  | .film code _ => some code.val
  | .event code _ _ _ => some code.val
  | _ => none

/-- The preview seconds of an entry (R1). -/
def Terms.previewSeconds : Terms → Option Nat
  | .film _ seconds => some seconds
  | .event _ seconds _ _ => some seconds
  | _ => none

/-- The event start and end of an entry (R1). -/
def Terms.window : Terms → Option (Nat × Nat)
  | .event _ _ start stop => some (start, stop)
  | _ => none

/-- The entry's fields of a LINEUP_READ reply, in the order of R15, each absent for a service that is not in the line-up and
where the entry's kind leaves it out (R15, R200; log 22, DEDUCED). -/
def entryBytes (e : Option LineupEntry) : List Byte :=
  let terms := e.map (·.terms)
  let window := terms.bind (·.window)
  idOpt (e.map (·.service)) ++ namedOpt (terms.map (·.code)) ++ yesNoOpt (e.map (·.adult)) ++
    numOpt 1 (terms.bind (·.packageNumber)) ++ numOpt 1 ((e.bind (·.keySlot)).map (·.val)) ++
    numOpt 1 (terms.bind (·.priceCode)) ++ quadOpt (e.map (·.rating)) ++ numOpt 2 (terms.bind (·.previewSeconds)) ++
    numOpt 4 (window.map (·.1)) ++ numOpt 4 (window.map (·.2))

/-- The price fields of a LINEUP_READ reply, absent for a service without a price (R15, R200). -/
def priceBytes (p : Option PriceEntry) : List Byte :=
  numOpt 2 (p.map (·.base)) ++ numOpt 1 (p.map (·.hours)) ++ numOpt 1 (p.map (·.allowance)) ++
    numOpt 1 (p.map (·.grace)) ++ yesNoOpt (p.map (·.loaded))

/-- A rental of a RENTALS_READ reply (R128). -/
def Rental.bytes (r : Rental) : List Byte :=
  num 1 r.index.val ++ num 2 r.service ++ named r.kind.code ++ num 2 r.session ++ idOpt r.charge ++ num 4 r.amount ++
    yesNo r.capped ++ yesNo r.waived ++ num 4 r.start ++ num 4 r.stop ++ num 1 r.allowance ++ num 1 r.grace ++
    num 4 r.viewed ++ screenSet r.seats ++ screenList r.waiting

/-- The nine modes now in force, in the order of R189; BILLING, ROOM and START are EVERY (R192). -/
def Modes.bytes (m : Modes) : List Byte :=
  ([m.lane, m.rentals, .every, .every, m.pin, m.line, m.clock, m.lineup, .every] : List NoticeMode).flatMap
    (fun mode => named mode.code)

/-- A reply body by its request: every field at its full size, so that bodies of one kind have one length but for their lists
(R200). -/
def ReplyBody.bytes : ReplyBody → List Byte
  | .none => []
  | .identify report => report.bytes
  | .status report => report.bytes
  | .screen report => report.bytes
  | .lineup generation e price => num 1 generation ++ entryBytes e ++ priceBytes price
  | .purchase index amount capped charge stop =>
    num 1 index.val ++ num 4 amount ++ yesNo capped ++ idOpt charge ++ num 4 stop
  | .cancel service amount credit => num 2 service ++ num 4 amount ++ idOpt credit
  | .rentals list => counted Rental.bytes list
  | .charges entries held next => counted QueueEntry.bytes entries ++ num 1 entries.length ++ yesNo held ++ num 2 next
  | .notices list => counted Notice.bytes list
  | .modes m => m.bytes
  | .address a => num 2 a

/-! ### Media link frames -/

/-- A frame of the part after its sync byte and before its check: body length, kind, tag, result code, body (11.5). -/
def MlReply.content (r : MlReply) : List Byte :=
  num 1 r.body.bytes.length ++ [r.kind, r.tag] ++ named r.result.code ++ r.body.bytes

/-- The bytes of a frame of the part on MLTX (11.5). -/
def MlReply.bytes (r : MlReply) : List Byte := mlSync :: (r.content ++ crcBytes r.content)

/-- What the part is driving onto the property line, while PLDE is asserted (R163, R171). -/
def State.plDrives (s : State) : Option (List Byte) :=
  match s.line.reply with
  | .driving r => if s.powered then some r.bytes else none
  | _ => none

/-- The frame on MLTX, while the transmitter is sending (R185). -/
def State.mlSends (s : State) : Option (List Byte) :=
  match s.link.tx with
  | .sending r => if s.powered then some r.bytes else none
  | .idle => none

/-! ### Command bodies, as a head-end or a host that follows 11.2 and 11.5 lays them out -/

/-- The package number, price code, preview seconds and window of a LINEUP_ENTRY body, 0 where the kind holds none (11.2). -/
def Terms.layout (t : Terms) : List Byte × List Byte × List Byte :=
  (num 1 (t.packageNumber.getD 0), num 1 (t.priceCode.getD 0),
    num 2 (t.previewSeconds.getD 0) ++ num 4 ((t.window.map (·.1)).getD 0) ++ num 4 ((t.window.map (·.2)).getD 0))

/-- The flag byte of a LINEUP_ENTRY body: bit 7 adult, bit 6 key slot present, bits 3..0 key slot (11.2). -/
def LineupEntry.flagByte (e : LineupEntry) : Nat :=
  e.adult.toNat * 128 + (match e.keySlot with
    | some slot => 64 + slot.val
    | none => 0)

/-- The rating word of a LINEUP_ENTRY body: age in bits 15..12 (11.2). -/
def ratingWord (r : Rating) : Nat := r.age * 4096 + r.violence * 256 + r.language * 16 + r.sexual

/-- The body of a LINEUP_ENTRY (11.2). -/
def LineupEntry.layout (e : LineupEntry) : List Byte :=
  num 2 e.service ++ num 1 e.terms.code ++ num 1 e.flagByte ++ e.terms.layout.1 ++ e.terms.layout.2.1 ++
    num 2 (ratingWord e.rating) ++ e.terms.layout.2.2

/-- The body of a PRICE_SET for a price code (11.2). -/
def PriceEntry.layout (code : Nat) (p : PriceEntry) : List Byte :=
  num 1 code ++ num 2 p.base ++ num 1 p.hours ++ num 1 p.allowance ++ num 1 p.grace

/-- The body of a KEY_LOAD (11.2). -/
def KeyLoad.layout (k : KeyLoad) : List Byte :=
  num 1 ((match k.parity with
    | .even => 0
    | .odd => 128) + k.slot.val) ++ num 1 k.epoch.toNat ++ num 8 k.word.toNat ++ num 4 k.validUntil

/-- The body of a ROOM_UPDATE, and bytes 2..27 of a CHECK_IN body (11.2). -/
def StayTerms.layout (t : StayTerms) : List Byte :=
  num 2 t.packages.toNat ++ num 1 (t.adult.toNat + 2 * t.pinOnPurchase.toNat) ++ num 4 t.spendLimit ++ num 4 t.cap ++
    num 4 t.capReset ++ num 2 t.rateFactor ++ num 2 t.tax ++ num 1 t.rateCount ++ num 4 t.rateWindow ++
    num 2 t.unlockHold

/-- A PIN field: 0..9999, or 0xFFFF for NONE (11.2). -/
def pinField (pin : Option Nat) : List Byte := num 2 (pin.getD 0xFFFF)

/-- The body of a CHECK_IN (11.2). -/
def CheckIn.layout (c : CheckIn) : List Byte :=
  num 2 c.session ++ c.terms.layout ++ pinField c.pin ++ quad c.ceilings

/-! ### Cells -/

/-- CLEAR, EVEN, ODD, RATING (11.1). -/
def CellKind.code : CellKind → Nat
  | .clear => 0
  | .even => 1
  | .odd => 2
  | .rating => 3

/-- The 24-bit header word of a cell (11.1). -/
def Cell.header (c : Cell) : Nat :=
  c.service.toNat * 4096 + c.kind.code * 1024 + c.continuity.toNat * 64 + c.epoch.toNat

/-- The 195 bytes of a cell (11.1). -/
def Cell.bytes (c : Cell) : List Byte := num 3 c.header ++ c.payload

end Sys2Proof.Machine
end

