-- ==== Sys2Proof/Safety.lean ====
section
/-! DEFINITION. What the rules promise of every state of the part, block by block. Each predicate is kept by every step from
every state that meets it, so it holds of every state a run reaches. -/

namespace Sys2Proof.Machine

/-! ### Clock Unit -/

/-- The counts of the two time bases stay in their range, and an UNSET room clock stands at 0 (R90, R91). -/
abbrev ClockUnit.Ok (c : ClockUnit) : Prop :=
  c.count ≤ maxCount ∧ c.run ≤ maxCount ∧ (c.isSet = false → c.count = 0)

/-! ### Line-up Table -/

/-- A quad of ratings or ceilings, each 0..15. -/
abbrev Rating.Ok (r : Rating) : Prop := r.age ≤ 15 ∧ r.violence ≤ 15 ∧ r.language ≤ 15 ∧ r.sexual ≤ 15

/-- The fields of an entry's kind within their ranges, and an EVENT that ends after it starts (R1, R8). -/
def Terms.fits : Terms → Bool
  | .free => true
  | .package number => decide (number ≤ 15)
  | .film _ previewSeconds => decide (previewSeconds ≤ 600)
  | .event _ previewSeconds start stop => decide (previewSeconds ≤ 600 ∧ start < stop ∧ stop ≤ maxCount)

/-- A line-up entry of a service 1..4095, its fields within their ranges (R1). -/
abbrev LineupEntry.Ok (e : LineupEntry) : Prop := 1 ≤ e.service ∧ e.service ≤ 4095 ∧ e.rating.Ok ∧ e.terms.fits = true

/-- A service table: at most 384 entries, one for a service, in order of service number (R2, R6, R7). -/
abbrev TableOk (table : List LineupEntry) : Prop :=
  table.length ≤ lineupCapacity ∧ table.Pairwise (fun a b => a.service < b.service) ∧ ∀ e ∈ table, e.Ok

/-- A staging generation is 1..255 (R5). -/
def Staging.fits : Staging → Bool
  | .idle => true
  | .filling generation => decide (1 ≤ generation ∧ generation ≤ 255)
  | .overfull generation => decide (1 ≤ generation ∧ generation ≤ 255)

/-- Both tables are service tables, and in IDLE nothing is staged (R2, R4 to R11). -/
abbrev LineupTable.Ok (t : LineupTable) : Prop :=
  TableOk t.active ∧ TableOk t.standby ∧ t.generation ≤ 255 ∧ t.staging.fits = true ∧
    (t.staging = .idle → t.standby = [] ∧ t.fault = false)

/-- A price entry within its ranges (R16). -/
abbrev PriceEntry.Ok (p : PriceEntry) : Prop :=
  p.base ≤ 65535 ∧ 1 ≤ p.hours ∧ p.hours ≤ 48 ∧ 1 ≤ p.allowance ∧ p.allowance ≤ 4 ∧ p.grace ≤ 15

/-! ### Key Store -/

/-- An EMPTY half holds zeros, and a valid-until is a room-clock count (R20). -/
abbrev KeyHalf.Ok (h : KeyHalf) : Prop := (h.state = .empty → h = .noKey) ∧ h.validUntil ≤ maxCount

/-- A slot whose halves are in order and are not both LIVE (R20, R33). -/
abbrev KeySlot.Ok (k : KeySlot) : Prop :=
  k.even.Ok ∧ k.odd.Ok ∧ ¬(k.even.state = .live ∧ k.odd.state = .live)

/-- Every slot of the Key Store is in order. -/
abbrev State.KeysOk (s : State) : Prop := ∀ slot : Fin 16, (s.keys.get slot).Ok

/-! ### Stream Unit -/

/-- A lane record whose fields agree: OFF exactly when untuned, a preview end exactly in PREVIEW, and an OFF lane without
key miss (R34, R42). -/
abbrev Lane.Ok (l : Lane) : Prop :=
  (l.state = .off ↔ l.tuned = none) ∧ (l.state = .preview ↔ l.previewEnd.isSome) ∧
    (l.state = .off → l.keyMiss = false)

/-- Every lane record is in order, its service is 1..4095, and an unlock is of the service its screen is tuned to (R42,
R79). -/
abbrev State.LanesOk (s : State) : Prop :=
  ∀ n : Screen, (s.lane n).Ok ∧ (∀ service ∈ (s.lane n).tuned, 1 ≤ service ∧ service ≤ 4095) ∧
    (∀ u ∈ s.unlockOf n, (s.lane n).tuned = some u.service)

/-! ### Lock Unit -/

/-- The PIN record and the ceilings: the lockout stands exactly at 3 failures, with its end, and there is none while the PIN
is NONE (R68, R73 to R77). -/
abbrev LockUnit.Ok (l : LockUnit) : Prop :=
  l.failures ≤ maxFailures ∧ (l.lockout = true ↔ l.failures = maxFailures) ∧ (l.lockoutEnd.isSome ↔ l.lockout = true) ∧
    (l.pin = none → l.failures = 0) ∧ (∀ p ∈ l.pin, p ≤ 9999) ∧ ∀ n : Screen, (l.ceilings.get n).Ok

/-! ### Room Record -/

/-- The terms of a stay within their ranges (R88). -/
abbrev StayTerms.Ok (t : StayTerms) : Prop :=
  t.spendLimit ≤ maxMoney ∧ t.capReset ≤ 86399 ∧ 500 ≤ t.rateFactor ∧ t.rateFactor ≤ 2000 ∧ t.tax ≤ 3000 ∧
    1 ≤ t.rateCount ∧ t.rateCount ≤ 8 ∧ 600 ≤ t.rateWindow ∧ t.rateWindow ≤ 86400 ∧ 60 ≤ t.unlockHold ∧
    t.unlockHold ≤ 14400

/-- The Room Record within its ranges, the billed total never above a cap, a running period that ends after it starts, and
the two lists within their capacities (R88, R99, R100, R104, R105). -/
abbrev RoomRecord.Ok (r : RoomRecord) : Prop :=
  r.terms.Ok ∧ r.address ≤ 1022 ∧ r.session ≤ 65535 ∧ (r.occupancy = .occupied → 1 ≤ r.session) ∧
    r.spend ≤ maxMoney ∧ r.billed ≤ maxMoney ∧ (r.terms.cap ≠ 0 → r.billed ≤ r.terms.cap) ∧
    (∀ p ∈ r.period, p.start < p.stop) ∧ r.history.length ≤ historyCapacity ∧
    r.previewUsed.length ≤ previewCapacity ∧ r.previewUsed.Nodup

/-- A room not OCCUPIED holds no rental (R112), and a VACANT one an empty queue (R97). -/
abbrev State.VacancyOk (s : State) : Prop :=
  (s.room.occupancy ≠ .occupied → s.rentals = []) ∧ (s.room.occupancy = .vacant → s.charges.entries = [])

/-! ### Rentals and charges -/

/-- Whether a number is a charge number (R145). -/
abbrev isNumber (n : Nat) : Prop := 1 ≤ n ∧ n ≤ 65535

/-- A rental within its ranges; it has a charge number exactly when its amount is above 0 (R110). -/
abbrev Rental.Ok (r : Rental) : Prop :=
  1 ≤ r.allowance ∧ r.allowance ≤ 4 ∧ r.grace ≤ 15 ∧ r.viewed ≤ maxViewed ∧ r.amount ≤ 170391 ∧
    (r.charge.isSome ↔ 0 < r.amount) ∧ ∀ n ∈ r.charge, isNumber n

/-- The Rental List: at most 8 rentals, no two of one service, one index or one charge number (R111, R112). -/
abbrev RentalsOk (rentals : List Rental) : Prop :=
  rentals.length ≤ rentalCapacity ∧ (rentals.map (·.service)).Nodup ∧ (rentals.map (·.index)).Nodup ∧
    (rentals.filterMap (·.charge)).Nodup ∧ ∀ r ∈ rentals, r.Ok

/-- The law of the Rental List: never two rentals of one service nor more than 8, none in a room not OCCUPIED, and each of the
session in force (R112). -/
abbrev State.RentalListOk (s : State) : Prop :=
  s.rentals.length ≤ rentalCapacity ∧ (s.rentals.map (·.service)).Nodup ∧
    (s.room.occupancy ≠ .occupied → s.rentals = []) ∧ ∀ r ∈ s.rentals, r.session = s.room.session

/-- A queue entry within its ranges; an entry of amount 0 is never made, and only a CHARGE is DECLINED (R144, R152). -/
abbrev QueueEntry.Ok (e : QueueEntry) : Prop :=
  isNumber e.number ∧ 1 ≤ e.amount ∧ e.amount ≤ 170391 ∧ e.tax ≤ 3000 ∧ (∀ n ∈ e.refersTo, isNumber n) ∧
    (e.state = .declined → e.kind = .charge)

/-- The Charge Queue: at most 12 entries, no number twice, and every entry behind the head WAITING (R145 to R148). -/
abbrev ChargeQueue.Ok (q : ChargeQueue) : Prop :=
  q.entries.length ≤ queueCapacity ∧ (q.entries.map (·.number)).Nodup ∧ isNumber q.next ∧
    (∀ e ∈ q.entries, e.Ok) ∧ ∀ e ∈ q.entries.tail, e.state = .waiting

/-- The Rental List, the Charge Queue and what their amounts are made from. -/
abbrev State.BillingOk (s : State) : Prop :=
  RentalsOk s.rentals ∧ s.charges.Ok ∧ s.room.terms.rateFactor ≤ 2000 ∧ s.room.terms.tax ≤ 3000 ∧
    ∀ code : Fin 32, (s.prices.get code).Ok

/-- The seats of one rental: no more holders than its allowance, no lane twice among holders and waiters, and each of them
tuned to its service with that standing (R42, R119, R120). -/
abbrev State.SeatsOf (s : State) (r : Rental) : Prop :=
  r.seats.length ≤ r.allowance ∧ (r.seats ++ r.waiting).Nodup ∧
    (∀ n ∈ r.seats, (s.lane n).tuned = some r.service ∧ (s.lane n).standing = .holding) ∧
    ∀ n ∈ r.waiting, (s.lane n).tuned = some r.service ∧ (s.lane n).standing = .waiting

/-- Seats and standings agree: every rental's seats are in order; a lane with a standing is where its standing says in the
one rental of its service; a lane holds a seat only in OPEN and waits exactly in SEAT_WAIT (R42, R49, R112, R119, R120). -/
abbrev State.SeatsOk (s : State) : Prop :=
  (s.rentals.map (·.service)).Nodup ∧ (s.rentals.map (·.index)).Nodup ∧ (∀ r ∈ s.rentals, s.SeatsOf r) ∧
    ∀ n : Screen,
      ((s.lane n).standing = .holding →
        (s.lane n).state = .opened ∧ ∃ r ∈ s.rentals, (s.lane n).tuned = some r.service ∧ n ∈ r.seats) ∧
      ((s.lane n).standing = .waiting → ∃ r ∈ s.rentals, (s.lane n).tuned = some r.service ∧ n ∈ r.waiting) ∧
      ((s.lane n).state = .blank .seatWait ↔ (s.lane n).standing = .waiting)

/-! ### The two links -/

/-- The line is DOWN exactly when the silence count stands at 300, its bound (R179). -/
abbrev PropertyLine.Ok (l : PropertyLine) : Prop :=
  l.silence ≤ silenceLimit ∧ (l.up = true ↔ l.silence < silenceLimit)

/-- A snapshot is of its pair's kind, and a LANE snapshot of its screen (R190). -/
def Snapshot.suits : Snapshot → NoticePair → Bool
  | .lane view, .lane n => view.screen == n
  | .rentals _, .rentals => true
  | .billing _ _, .billing => true
  | .room _, .room => true
  | .pin _, .pin => true
  | .line _ _, .line => true
  | .clock _ _, .clock => true
  | .lineup _ _, .lineup => true
  | .start _, .start => true
  | _, _ => false

/-- The notice queue: at most 12 notices, no two of one pair, each with its own kind of snapshot and a raise count of 1..255
(R189, R190). -/
abbrev NoticesOk (notices : List Notice) : Prop :=
  notices.length ≤ 12 ∧ (notices.map (·.pair)).Nodup ∧
    ∀ n ∈ notices, 1 ≤ n.raises ∧ n.raises ≤ maxRaises ∧ n.snapshot.suits n.pair = true

/-- A frame-level answer is OVERRUN, or BAD_FRAME with kind 0 and tag 0, and has no body (R185). -/
abbrev MlReply.frameLevel (r : MlReply) : Prop := (r = badFrame ∨ r.result = .overrun) ∧ r.body = .none

/-- The receive buffer and the answer list hold at most 4 each, and nothing waits in them for an idle transmitter (R184,
R185). -/
abbrev MediaLink.BuffersOk (l : MediaLink) : Prop :=
  l.buffer.length ≤ linkPlaces ∧ l.answers.length ≤ linkPlaces ∧ (∀ r ∈ l.answers, r.frameLevel) ∧
    (l.tx = .idle → l.answers = [] ∧ l.buffer = [])

/-- A lane OPEN on a FILM or EVENT holds a seat (R44, R49). -/
abbrev State.ViewingOk (s : State) : Prop :=
  s.SeatsOk ∧ ∀ n : Screen, (s.lane n).state = .opened →
    ∀ e ∈ (s.lane n).tuned.bind s.entry, (e.terms.code = 2 ∨ e.terms.code = 3) → (s.lane n).standing = .holding

/-- A screen is not rating-blocked, or it holds an unlock for the service tuned (R70, R72). -/
abbrev State.ratingPasses (s : State) (n : Screen) : Prop :=
  (ratingCompare (s.lane n).rating (s.ceiling n)).any = false ∨ ∃ u ∈ s.unlockOf n, (s.lane n).tuned = some u.service

/-- A lane that may show a picture is in OPEN or PREVIEW only while its rating exceeds no ceiling of its screen, or its screen
holds an unlock for the tuned service (R72). -/
abbrev State.LockLawOk (s : State) : Prop :=
  ∀ n : Screen, (s.lane n).state = .opened ∨ (s.lane n).state = .preview → s.ratingPasses n

/-! ### What a command leaves, in the rules' words -/

/-- A frame to this address is addressed to this room, and the receiver is listening (R163, R167). -/
abbrev State.AddressedBy (s : State) (address : BitVec 10) : Prop :=
  s.listening = true ∧ address.toNat = s.room.address ∧ 1 ≤ address.toNat ∧ address.toNat ≤ 1022

/-- A frame to this address is a broadcast to this room, and the receiver is listening (R163, R167). -/
abbrev State.BroadcastBy (s : State) (address : BitVec 10) : Prop := s.listening = true ∧ address.toNat = 1023

/-- The usual reply: every field shows the room after the command (R171 to R173). -/
def usualReply (t : State) (address : BitVec 10) (answer : FolioAnswer) (entry : Option QueueEntry) : PlReply :=
  { address := address.toNat
    flags :=
      { latched := t.line.latched
        attention := decide (0 < t.charges.entries.length)
        billingHeld := t.charges.entries.head?.any (fun e => e.state == .declined)
        retentionLost := t.room.retentionLost
        answer := answer }
    occupancy := t.room.occupancy
    session := t.room.session
    queueLength := t.charges.entries.length
    generation := t.lineup.generation
    entry := entry }

/-- A good frame has been heard: the line is UP, the silence count 0 and the receiver HUNTING (R165, R166, R179). -/
abbrev Heard (t : State) : Prop := t.line.rx = .hunting ∧ t.line.up = true ∧ t.line.silence = 0

/-- An addressed command has been heard and its reply built, from the state it left (R170). -/
abbrev Answered (t : State) (address : BitVec 10) (answer : FolioAnswer) (entry : Option QueueEntry) : Prop :=
  Heard t ∧ t.line.reply = .built (usualReply t address answer entry)

/-- A command that may be broadcast has been heard, and answered if it was addressed (R168, R170). -/
abbrev Took (t : State) (address : BitVec 10) : Prop :=
  Heard t ∧ t.line.reply = if address.toNat = 1023 then .none else .built (usualReply t address .none none)

/-- The latched flags after a command that latches `own`: a broadcast latches BROADCAST_SEEN too (R168 step 5, R172). -/
def flagsAfter (own : Latched) (address : BitVec 10) : Latched :=
  if address.toNat = 1023 then { own with broadcastSeen := true } else own

/-- Of the media link nothing has changed but the notices filed. -/
abbrev OnlyNotices (s t : State) : Prop := t.link = { s.link with notices := t.link.notices, armed := t.link.armed }

/-- A part with its supply that takes a request at once: nothing waits for its transmitter, which is not sending the reply to
a RESTART (R185, R195). What a request row does where something waits is a statement of its own. -/
abbrev State.Ready (s : State) : Prop :=
  s.powered = true ∧ s.link.tx.isRestart = false ∧ s.link.answers = [] ∧ s.link.buffer = []

/-- A request has been answered with a result and a body, under its own kind and tag (R185, R186), and the receiver, the
receive buffer and the answer list stand as they were. -/
abbrev Replied (s t : State) (f : MlFrame) (result : Result) (body : ReplyBody) : Prop :=
  t.link.tx = .sending ⟨f.kind, f.tag, result, body⟩ ∧ t.link.rx = s.link.rx ∧ t.link.answers = s.link.answers ∧
    t.link.buffer = s.link.buffer

/-- A notice of a pair waits with this snapshot. -/
abbrev Shows (t : State) (p : NoticePair) (snapshot : Snapshot) : Prop :=
  ∃ n ∈ t.link.notices, n.pair = p ∧ n.snapshot = snapshot

/-- The lanes, rentals and previews an admission may reach, with the notices it raises; everything else is as it was. -/
abbrev OnlyViewing (s t : State) : Prop :=
  t = { s with
    lanes := t.lanes, rentals := t.rentals, link := t.link,
    room := { s.room with previewUsed := t.room.previewUsed } } ∧ OnlyNotices s t

/-- A good frame was heard and nothing else came of it but these latched flags and, for a line that was DOWN, the LINE
notice of its coming UP (R166, R179). -/
abbrev OnlyHeard (s t : State) (latched : Latched) : Prop :=
  t = { s with line := ⟨.hunting, latched, true, 0, .none⟩, link := t.link } ∧ OnlyNotices s t ∧
    (s.line.up = true → t.link = s.link) ∧
    (s.line.up = false → s.link.modes.line = .every → Shows t .line (.line true s.clock.run))

/-- The media link after a command that raises no notice of its own: a good frame's LINE notice at most (R179). -/
abbrev HeardLink (s t : State) : Prop := OnlyNotices s t ∧ (s.line.up = true → t.link = s.link)

/-- A request was answered and nothing else came of it. -/
abbrev OnlyReplied (s t : State) (f : MlFrame) (result : Result) (body : ReplyBody) : Prop :=
  Replied s t f result body ∧ t = { s with link := { s.link with tx := t.link.tx } }

/-- Of the media link a request has changed its reply and the notices filed, nothing more. -/
abbrev LinkFrame (s t : State) : Prop :=
  t.link = { s.link with tx := t.link.tx, notices := t.link.notices, armed := t.link.armed }

/-- A frame-level answer is sent at once by an idle transmitter; otherwise it joins the answer list unless 4 wait (R185). -/
def answered (l : MediaLink) (reply : MlReply) : MediaLink :=
  if l.tx = .idle then { l with tx := .sending reply }
  else if l.answers.length < 4 then { l with answers := l.answers ++ [reply] } else l

/-- The price entry that a FILM or EVENT entry's price code names (R18). -/
def State.priceNamed (s : State) (e : LineupEntry) : PriceEntry :=
  match e.terms with
  | .film code _ => s.prices.get code
  | .event code _ _ _ => s.prices.get code
  | _ => .atStart

/-- A rental without its seat set and waiting list: what a purchase fixes, and what is metered (R110). -/
def Rental.unseated (r : Rental) : Rental := { r with seats := [], waiting := [] }

/-- A lane without its last outcome: what its tuning and the head-end set (R42). -/
def Lane.settings (l : Lane) : Option Nat × Bool × Rating × Bool := (l.tuned, l.keyMiss, l.rating, l.shutdown)

/-- The rating a service's entry gives a lane, 15 in every place where it is not in the line-up (R2, R12, R45). -/
def quadOf (table : List LineupEntry) (service : Nat) : Rating :=
  match table.find? (fun e => e.service == service) with
  | some e => e.rating
  | none => ⟨15, 15, 15, 15⟩

/-- The PIN condition of a request that carries this PIN: the room PIN is NONE, or it is carried and no lockout stands (R74,
R76). -/
abbrev State.PinMet (s : State) (carried : Option Nat) : Prop :=
  s.lock.pin = none ∨ (s.lock.lockout = false ∧ s.lock.pin = carried)

/-- The failure count after a PIN condition has been met: 0 where a PIN is set (R74). -/
def State.failuresMet (s : State) : Nat := if s.lock.pin = none then s.lock.failures else 0

/-! ### Safe steps -/

/-- A step is safe when the part goes on: the rules give no event at which it stops. -/
def SafeStep (s : State) : Prop := ∃ t, step s = .next t

/-- A predicate that every step keeps, from every state that meets it. -/
def KeptByStep (p : State → Prop) : Prop := ∀ s t : State, p s → step s = .next t → p t

end Sys2Proof.Machine
end

