-- ==== Sys2Proof/WellFormed.lean ====
section
/-! DEFINITION. The commands that can come: the operands a pin, a line or a link can carry (Instr.wf), and, for the rows that
name what became of a receiver or of an address, the states in which they come about (Instr.fits). The meaning of a command
does not rest on either: `exec` is total, and a row whose operands do not fit it is handled by its contents (logs 10 and 11, DESIGN CHOICE). -/

namespace Sys2Proof

open Machine

/-- A cell's payload is 192 bytes (R28). -/
def payloadFits (payload : List Byte) : Bool := payload.length == payloadBytes

/-- A property line frame's body count is at most 48 (R165). -/
def plBodyFits (body : List Byte) : Bool := decide (body.length ≤ plBodyLimit)

/-- A request frame's body length is at most 120 (R183). -/
def mlBodyFits (body : List Byte) : Bool := decide (body.length ≤ mlBodyLimit)

/-- The last character of a run is above a limit, as the count or length byte that ends a frame is (R165, R183). -/
def endsAbove (limit : Nat) (chars : List Byte) : Bool :=
  match chars.getLast? with
  | some c => decide (limit < c.toNat)
  | none => false

/-- The operands a command can carry. -/
def Instr.wf : Instr → Bool
  | .clearCell _ _ _ _ payload => payloadFits payload
  | .scrambledCell _ _ _ _ _ payload => payloadFits payload
  | .ratingCell _ _ _ _ payload => payloadFits payload
  | .plBodyCountAbort chars => endsAbove plBodyLimit chars
  | .plBadCrcFrame chars => !chars.isEmpty
  | .frameNotForRoom address _ body => plBodyFits body && decide (address.toNat ≠ broadcastAddress)
  | .plUnknownKind _ kind body => plBodyFits body && (plKindOf kind).isNone
  | .lineupBegin _ body => plBodyFits body
  | .lineupEntry _ body => plBodyFits body
  | .lineupCommit _ body => plBodyFits body
  | .priceSet _ body => plBodyFits body
  | .keyLoad _ body => plBodyFits body
  | .timeSet _ body _ => plBodyFits body
  | .roomReset _ body => plBodyFits body
  | .checkIn _ body => plBodyFits body
  | .checkOut _ body => plBodyFits body
  | .roomUpdate _ body => plBodyFits body
  | .statusPoll _ body => plBodyFits body
  | .collect _ body => plBodyFits body
  | .confirm _ body => plBodyFits body
  | .decline _ body => plBodyFits body
  | .waive _ body => plBodyFits body
  | .revoke _ body => plBodyFits body
  | .screenShutdown _ body => plBodyFits body
  | .screenRestore _ body => plBodyFits body
  | .pinClear _ body => plBodyFits body
  | .mlLengthAbort chars => endsAbove mlBodyLimit chars
  | .mlBadCrcFrame chars => !chars.isEmpty
  | .mlGoodFrame _ _ body => mlBodyFits body
  | .mlUnknownRequest kind _ body => mlBodyFits body && (mlKindOf kind).isNone
  | .identify _ body => mlBodyFits body
  | .status _ body => mlBodyFits body
  | .tune _ body => mlBodyFits body
  | .untune _ body => mlBodyFits body
  | .screenReport _ body => mlBodyFits body
  | .lineupRead _ body => mlBodyFits body
  | .purchase _ body => mlBodyFits body
  | .cancelRental _ body => mlBodyFits body
  | .rentalsRead _ body => mlBodyFits body
  | .chargesRead _ body => mlBodyFits body
  | .unlock _ body => mlBodyFits body
  | .relock _ body => mlBodyFits body
  | .setCeilings _ body => mlBodyFits body
  | .setPin _ body => mlBodyFits body
  | .noticesRead _ body => mlBodyFits body
  | .noticeModes _ body => mlBodyFits body
  | .setRoomAddress _ body => mlBodyFits body
  | .restart _ body => mlBodyFits body
  | .powerOn _ _ => true
  | .resetPin _ _ => true
  | .runTick _ => true
  | .previewExpiry _ => true
  | .unlockExpiry _ => true
  | .lockoutEnd => true
  | .lineDown => true
  | .roomClockSecond _ => true
  | .keyExpiry _ _ => true
  | .rentalExpiry _ => true
  | .eventWindowEdge _ => true
  | .capPeriodRollover => true
  | .plBreak _ => true
  | .plFramingError _ => true
  | .plReplySend => true
  | .replyAbandoned _ => true
  | .mlBreak _ => true
  | .mlFramingError _ => true
  | .transmitComplete => true
  | .restartTakesEffect => true
  | .powerLoss => true
  | .plReplyComplete => true

/-- The command that a frame of a known kind is, with the order of a TIME_SET's tests left open (R168). -/
def Machine.PlKind.command (kind : PlKind) (address : BitVec 10) (body : List Byte) : Instr :=
  match kind with
  | .lineupBegin => .lineupBegin address body
  | .lineupEntry => .lineupEntry address body
  | .lineupCommit => .lineupCommit address body
  | .priceSet => .priceSet address body
  | .keyLoad => .keyLoad address body
  | .timeSet => .timeSet address body []
  | .roomReset => .roomReset address body
  | .checkIn => .checkIn address body
  | .checkOut => .checkOut address body
  | .roomUpdate => .roomUpdate address body
  | .statusPoll => .statusPoll address body
  | .collect => .collect address body
  | .confirm => .confirm address body
  | .decline => .decline address body
  | .waive => .waive address body
  | .revoke => .revoke address body
  | .screenShutdown => .screenShutdown address body
  | .screenRestore => .screenRestore address body
  | .pinClear => .pinClear address body

/-- The command that a request of a known kind is (section 10.4). -/
def Machine.MlKind.request (kind : MlKind) (tag : Byte) (body : List Byte) : Instr :=
  match kind with
  | .identify => .identify tag body
  | .status => .status tag body
  | .tune => .tune tag body
  | .untune => .untune tag body
  | .screenReport => .screenReport tag body
  | .lineupRead => .lineupRead tag body
  | .purchase => .purchase tag body
  | .cancelRental => .cancelRental tag body
  | .rentalsRead => .rentalsRead tag body
  | .chargesRead => .chargesRead tag body
  | .unlock => .unlock tag body
  | .relock => .relock tag body
  | .setCeilings => .setCeilings tag body
  | .setPin => .setPin tag body
  | .noticesRead => .noticesRead tag body
  | .noticeModes => .noticeModes tag body
  | .setRoomAddress => .setRoomAddress tag body
  | .restart => .restart tag body

/-- The receiver of the property line is brought by these characters to one event, and to this one. -/
def plBrings (s : State) (chars : List Byte) (event : RxEvent PlFrame) : Bool :=
  (rxRun plRxTake s.line.rx chars).2 == [event]

/-- The receiver of the media link is brought by these characters to one event, and to this one. -/
def mlBrings (s : State) (chars : List Byte) (event : RxEvent MlFrame) : Bool :=
  (rxRun mlRxTake s.link.rx chars).2 == [event]

/-- The states in which a row that names an outcome comes about. -/
def Instr.fits (s : State) : Instr → Bool
  | .plBodyCountAbort chars => plBrings s chars .tooLong
  | .plBadCrcFrame chars => plBrings s chars .badCrc
  | .frameNotForRoom address _ _ => matchAddress address.toNat s.room.address == .notForRoom
  | .plUnknownKind address _ _ => matchAddress address.toNat s.room.address != .notForRoom
  | .mlLengthAbort chars => mlBrings s chars .tooLong
  | .mlBadCrcFrame chars => mlBrings s chars .badCrc
  | _ => true

end Sys2Proof
end

