-- ==== Sys2Proof/Certificates/Slice0/Obligations.lean ====
section
/-! DEFINITION. The statements for the provers: what the numbered rules of spec/ say of the machine, of each command and of
each kind of state. `Answered`, `Took`, `Replied` and the other words for what a command leaves stand in Safety.lean. -/

open Sys2Proof Sys2Proof.Machine

/-! ### The machine as a whole -/

/-- The command at the front of the queue acts on the state with the queue's rest, and with none waiting the part idles: the
model's queue and its idling are log 1. -/
def Obligations.AStepTakesTheFrontCommandOrIdles : Prop :=
  (∀ (s : State) (c : Instr) (rest : List Instr),
     step { s with pending := c :: rest } = exec c { s with pending := rest }) ∧
  (∀ (s : State), s.pending = [] → step s = .next s)

/-- No command stops the part, and none reads or writes the queue of waiting commands (00_scope, Events; logs 1 and 32). -/
def Obligations.EveryCommandAnswersANextState : Prop :=
  ∀ (s : State) (c : Instr), ∃ t, exec c s = .next t ∧ t.pending = s.pending

/-- The state after reset: every block at the values its rules give for a cold start, with the START notice waiting (R3, R4,
R19, R20, R41, R64, R68, R73, R88, R90, R91, R109, R181, R196, R197). That reset is a cold start is log 2. -/
def Obligations.ResetIsAColdStart : Prop :=
  (State.reset.lineup.active = [] ∧ State.reset.lineup.generation = 0 ∧ State.reset.lineup.staging = .idle ∧
    State.reset.lineup.standby = [] ∧ State.reset.lineup.fault = false) ∧
  (∀ code : Fin 32, State.reset.prices.get code = ⟨0, 1, 1, 0, false⟩) ∧
  (∀ (slot : Fin 16) (p : Parity), State.reset.half slot p = ⟨.empty, 0, 0, 0⟩) ∧
  (∀ n : Screen, State.reset.lane n = ⟨none, .off, false, ⟨15, 15, 15, 15⟩, false, none, .none⟩ ∧
    State.reset.ceiling n = ⟨15, 15, 15, 15⟩ ∧ State.reset.unlockOf n = none) ∧
  (State.reset.lock.pin = none ∧ State.reset.lock.failures = 0 ∧ State.reset.lock.lockout = false ∧
    State.reset.lock.lockoutEnd = none) ∧
  State.reset.room = ⟨0, .vacant, 0, ⟨0, false, 0, 0, 0, 1000, 0, false, 4, 3600, 7200⟩, 0, none, 0, [], [], true⟩ ∧
  State.reset.rentals = [] ∧ State.reset.charges = ⟨[], 1⟩ ∧ State.reset.clock = ⟨false, 0, 0⟩ ∧
  State.reset.line = ⟨.hunting, ⟨false, false, false, false⟩, false, 300, .none⟩ ∧
  (State.reset.link.rx = .hunting ∧ State.reset.link.buffer = [] ∧ State.reset.link.answers = [] ∧
    State.reset.link.modes = ⟨.every, .every, .every, .every, .every, .every⟩ ∧
    (∀ i : Fin 12, State.reset.link.armed.get i = true) ∧
    State.reset.link.notices = [⟨.start, .start ⟨.cold, true, 0, .vacant, 0, 0, false, 0, false, false, 0⟩, 1⟩]) ∧
  State.reset.mlatnLow = true ∧ State.reset.plde = false

/-! ### What every step keeps -/

/-- Both time bases stay in range and an UNSET clock at 0; the line is DOWN exactly at a silence count of 300; the lockout stands
exactly at 3 failures, with its end, and never with the PIN NONE (R73 to R77, R90, R91, R179). -/
def Obligations.EveryStepKeepsTheCountsAndTheLock : Prop :=
  (KeptByStep (fun s => s.clock.Ok)) ∧
  (KeptByStep (fun s => s.line.Ok)) ∧
  (KeptByStep (fun s => s.lock.Ok))

/-- The service tables stay tables of at most 384 services in order, and IDLE stages nothing; at most one half of a key slot is
LIVE, and an EMPTY half holds zeros (R1, R2, R4 to R8, R10, R11, R20, R33). -/
def Obligations.EveryStepKeepsTheLineupAndTheKeys : Prop :=
  (KeptByStep (fun s => s.lineup.Ok)) ∧
  (KeptByStep State.KeysOk)

/-- A lane is OFF exactly when untuned and has a preview end exactly in PREVIEW; an unlock is of its screen's tuned service; and a
lane is in OPEN or PREVIEW only while its rating exceeds no ceiling of its screen or its screen holds an unlock (R42, R72, R79). -/
def Obligations.EveryStepKeepsTheLanes : Prop :=
  (KeptByStep State.LanesOk) ∧
  (KeptByStep State.LockLawOk)

/-- The Room Record stays in its ranges and the billed total never exceeds a cap; a room not OCCUPIED holds no rental, and a VACANT
room's queue is empty (R88, R97, R99, R100, R104, R105). -/
def Obligations.EveryStepKeepsTheRoom : Prop :=
  (KeptByStep (fun s => s.room.Ok)) ∧
  (KeptByStep State.VacancyOk)

/-- The Rental List never holds two rentals of one service or more than 8, it is empty whenever the room is not OCCUPIED, and every
rental in it belongs to the session in force (R112). -/
def Obligations.TheRentalListKeepsItsLaw : Prop := KeptByStep State.RentalListOk

/-- The Rental List and the Charge Queue keep their laws: at most 8 rentals and 12 entries, no service, index or number twice,
no entry of amount 0, and only the head OFFERED or DECLINED (R110 to R112, R144 to R149). -/
def Obligations.EveryStepKeepsTheBilling : Prop := KeptByStep State.BillingOk

/-- Seats and standings agree, a seat set never holds more lanes than its allowance, and a lane OPEN on a FILM or EVENT holds a seat
(R42, R44, R49, R119, R120). -/
def Obligations.EveryStepKeepsTheSeats : Prop := KeptByStep State.ViewingOk

/-- The notice queue never holds two notices of one pair, nor more than 12; the receive buffer and the answer list never hold more
than 4, and nothing waits in them for an idle transmitter (R184, R185, R189, R190). -/
def Obligations.EveryStepKeepsTheLink : Prop :=
  (KeptByStep (fun s => NoticesOk s.link.notices)) ∧
  (KeptByStep (fun s => s.link.BuffersOk))

/-- The state after reset meets every invariant above. -/
def Obligations.ResetMeetsTheInvariants : Prop :=
  State.reset.clock.Ok ∧ State.reset.line.Ok ∧ State.reset.lock.Ok ∧ State.reset.lineup.Ok ∧ State.reset.KeysOk ∧
    State.reset.LanesOk ∧ State.reset.LockLawOk ∧ State.reset.room.Ok ∧ State.reset.VacancyOk ∧ State.reset.RentalListOk ∧
    State.reset.BillingOk ∧ State.reset.ViewingOk ∧ NoticesOk State.reset.link.notices ∧ State.reset.link.BuffersOk ∧
    State.reset.charges.entries.length ≤ 12

/-- A lane emits a non-null cell of a FILM or EVENT service only while it holds a seat of that service's rental or is in PREVIEW
for that service (R44); and a non-null cell of any service only while its rating exceeds no ceiling of its screen or its
screen holds an unlock for the tuned service, by the invariant that every step keeps for R72. -/
def Obligations.APictureNeedsASeatOrAPreview : Prop :=
  ∀ (s t : State) (n : Screen) (p : Parity) (service : BitVec 12) (continuity : BitVec 4) (epoch : BitVec 6)
    (payload : List Byte) (c : Instr) (out : Cell),
    s.powered = true →
    c ∈ [Instr.clearCell n service continuity epoch payload, Instr.scrambledCell n p service continuity epoch payload,
      Instr.ratingCell n service continuity epoch payload] →
    exec c s = .next t → t.out n = some out → out.service ≠ 0 →
    (s.ViewingOk →
      ∀ e ∈ s.lineup.active.find? (fun e => e.service == out.service.toNat), e.terms.code = 2 ∨ e.terms.code = 3 →
        (s.lane n).tuned = some out.service.toNat ∧
          ((s.lane n).state = .preview ∨ ∃ r ∈ s.rentals, r.service = out.service.toNat ∧ n ∈ r.seats)) ∧
    (s.LockLawOk →
      ((s.lane n).rating.age ≤ (s.ceiling n).age ∧ (s.lane n).rating.violence ≤ (s.ceiling n).violence ∧
        (s.lane n).rating.language ≤ (s.ceiling n).language ∧ (s.lane n).rating.sexual ≤ (s.ceiling n).sexual) ∨
      ∃ u ∈ s.unlockOf n, (s.lane n).tuned = some u.service)

/-! ### The wires -/

/-- The frame check: over the nine characters "123456789" it is 0x29B1, and over bytes followed by two more it is 0 exactly when
those two are the check of the bytes (R166). -/
def Obligations.TheFrameCheckFindsItsOwnBytes : Prop :=
  crc16 [0x31, 0x32, 0x33, 0x34, 0x35, 0x36, 0x37, 0x38, 0x39] = 0x29B1 ∧
  ∀ (bs : List Byte) (a b : Byte), crc16 (bs ++ [a, b]) = 0 ↔ [a, b] = crcBytes bs

/-- The characters of a command frame, taken one by one from HUNTING, do what the command of that frame does (R163, R165 to
R168, 11.2). -/
def Obligations.ACommandFrameIsItsCharacters : Prop :=
  ∀ (s : State) (kind : PlKind) (address : BitVec 10) (body : List Byte),
    body.length ≤ 48 → s.line.rx = .hunting →
    exec (kind.command address body) s = .next (s.plChars (plFrameBytes ⟨address, kind.code, body⟩))

/-- The characters of a request frame, taken one by one from HUNTING, do what the arrival of its good frame does (R183, R184,
11.5). -/
def Obligations.ARequestFrameIsItsCharacters : Prop :=
  ∀ (s : State) (kind tag : Byte) (body : List Byte),
    body.length ≤ 120 → s.powered = true → s.link.rx = .hunting →
    exec (.mlGoodFrame kind tag body) s = .next (s.mlChars (mlFrameBytes ⟨kind, tag, body⟩))

/-- A frame that a break, a bad stop bit, a count above 48 or a failed check ends is discarded: nothing but the receiver has
changed (R163 to R166). -/
def Obligations.DiscardedFramesLeaveOnlyTheReceiver : Prop :=
  ∀ (s : State) (chars : List Byte),
    s.listening = true → s.line.reply = .none →
    (∀ e ∈ (rxRun plRxTake s.line.rx chars).2, e = .tooLong ∨ e = .badCrc) →
    exec (.plBreak chars) s = .next { s with line := { s.line with rx := .hunting } } ∧
    exec (.plFramingError chars) s = .next { s with line := { s.line with rx := .hunting } } ∧
    exec (.plBodyCountAbort chars) s =
      .next { s with line := { s.line with rx := (rxRun plRxTake s.line.rx chars).1 } } ∧
    exec (.plBadCrcFrame chars) s =
      .next { s with line := { s.line with rx := (rxRun plRxTake s.line.rx chars).1 } }

/-- A good frame that is not for this room, or of an unknown kind, restarts the silence count and is dropped; a command whose body
count is wrong, or that is addressed-only and was broadcast, latches MESSAGE_ERROR, reaches no owner and is not answered
(R166 to R169, R179). -/
def Obligations.UnfitFramesReachNoOwner : Prop :=
  (∀ (s : State) (address : BitVec 10) (kind : BitVec 6) (body : List Byte),
     s.listening = true →
     (address.toNat ≠ 1023 → address.toNat = 0 ∨ address.toNat ≠ s.room.address →
       ∃ t, exec (.frameNotForRoom address kind body) s = .next t ∧ OnlyHeard s t s.line.latched) ∧
     ((∀ k : PlKind, k.code ≠ kind) →
       ∃ t, exec (.plUnknownKind address kind body) s = .next t ∧ OnlyHeard s t s.line.latched)) ∧
  (∀ (s : State) (kind : PlKind) (address : BitVec 10) (body : List Byte),
     (s.AddressedBy address → body.length ≠ kind.bodyLength →
       ∃ t, exec (kind.command address body) s = .next t ∧
         OnlyHeard s t { s.line.latched with messageError := true }) ∧
     (s.BroadcastBy address → kind.mayBroadcast = false ∨ body.length ≠ kind.bodyLength →
       ∃ t, exec (kind.command address body) s = .next t ∧
         OnlyHeard s t { s.line.latched with messageError := true, broadcastSeen := true }))

/-- The reply: sending it asserts PLDE and clears the four latched flags; its end releases PLDE; while PLDE is asserted the
receiver takes nothing; and a start bit before it is sent abandons it with the flags latched (R163, R170, R172). -/
def Obligations.TheReplyIsSentOrAbandoned : Prop :=
  ∀ (s : State) (r : PlReply) (kind : PlKind) (address : BitVec 10) (body : List Byte) (char : Byte),
    s.powered = true →
    (s.line.reply = .built r →
      exec .plReplySend s =
        .next { s with line := { s.line with reply := .driving r, latched := ⟨false, false, false, false⟩ } } ∧
      (s.line.rx = .hunting → exec (.replyAbandoned char) s =
        .next { s with line := { s.line with
          reply := .none, rx := if char = 0x96 then .assembling [] else .hunting } })) ∧
    (s.line.reply = .driving r →
      exec .plReplyComplete s = .next { s with line := { s.line with reply := .none } } ∧
      s.plde = true ∧ exec (kind.command address body) s = .next s)

/-- A frame cut off on MLRX is answered with BAD_FRAME, kind 0 and tag 0, and in HUNTING a break or a bad stop bit is not answered;
a good frame is taken at once by an idle transmitter, as the request it is, and else joins the receive buffer, or finds 4
there and is answered OVERRUN under its own kind and tag. An answer is sent at once by an idle transmitter and else waits
(R183 to R186). -/
def Obligations.MlrxFramesWaitOrAreAnswered : Prop :=
  (∀ (s : State) (chars : List Byte), s.powered = true → s.link.BuffersOk →
     (mlBrings s chars .tooLong = true → exec (.mlLengthAbort chars) s =
       .next { s with link := { answered s.link ⟨0, 0, .badFrame, .none⟩ with rx := (rxRun mlRxTake s.link.rx chars).1 } }) ∧
     (mlBrings s chars .badCrc = true → exec (.mlBadCrcFrame chars) s =
       .next { s with link := { answered s.link ⟨0, 0, .badFrame, .none⟩ with rx := (rxRun mlRxTake s.link.rx chars).1 } }) ∧
     ((rxRun mlRxTake s.link.rx chars).2 = [] → ∀ c ∈ [Instr.mlBreak chars, .mlFramingError chars],
       ((rxRun mlRxTake s.link.rx chars).1 = .hunting → exec c s = .next { s with link := { s.link with rx := .hunting } }) ∧
       ((rxRun mlRxTake s.link.rx chars).1 ≠ .hunting → exec c s =
         .next { s with link := { answered s.link ⟨0, 0, .badFrame, .none⟩ with rx := .hunting } }))) ∧
  (∀ (s : State) (kind tag : Byte) (body : List Byte), s.powered = true → s.link.BuffersOk →
     (s.link.tx = .idle →
       (∀ k : MlKind, kind = k.code → exec (.mlGoodFrame kind tag body) s =
         exec (k.request tag body) { s with link := { s.link with rx := .hunting } }) ∧
       ((∀ k : MlKind, kind ≠ k.code) → exec (.mlGoodFrame kind tag body) s =
         exec (.mlUnknownRequest kind tag body) { s with link := { s.link with rx := .hunting } })) ∧
     (s.link.tx ≠ .idle → s.link.buffer.length < 4 → exec (.mlGoodFrame kind tag body) s =
       .next { s with link := { s.link with rx := .hunting, buffer := s.link.buffer ++ [⟨kind, tag, body⟩] } }) ∧
     (s.link.tx ≠ .idle → 4 ≤ s.link.buffer.length → exec (.mlGoodFrame kind tag body) s =
       .next { s with link := { answered s.link ⟨kind, tag, .overrun, .none⟩ with rx := .hunting } }))

/-- The transmitter's choice at the end of a frame: the oldest answer; else the oldest request of the buffer, which acts as its
own command does with nothing waiting; else it stays idle. A request row is that choice, and a frame that was not in the
buffer then arrives behind what waits; after a RESTART reply the restart is made first, and the buffer is empty (R185, R186,
R195). That a request row and TRANSMIT_COMPLETE mean this is the model's reading, logs 6 and 7. -/
def Obligations.TheTransmitterTakesTheOldest : Prop :=
  (∀ (s : State), s.powered = true → s.link.tx.isRestart = false →
     (∀ a rest, s.link.answers = a :: rest →
       exec .transmitComplete s = .next { s with link := { s.link with tx := .sending a, answers := rest } }) ∧
     (∀ f rest, s.link.answers = [] → s.link.buffer = f :: rest →
       (∀ k : MlKind, f.kind = k.code → ∃ t,
         exec (k.request f.tag f.body) { s with link := { s.link with buffer := [] } } = .next t ∧
         exec .transmitComplete s = .next { t with link := { t.link with buffer := rest } }) ∧
       ((∀ k : MlKind, f.kind ≠ k.code) → ∃ t,
         exec (.mlUnknownRequest f.kind f.tag f.body) { s with link := { s.link with buffer := [] } } = .next t ∧
         exec .transmitComplete s = .next { t with link := { t.link with buffer := rest } })) ∧
     (s.link.answers = [] → s.link.buffer = [] →
       exec .transmitComplete s = .next { s with link := { s.link with tx := .idle } })) ∧
  (∀ (s : State) (k : MlKind) (tag : Byte) (body : List Byte), s.powered = true →
     (⟨k.code, tag, body⟩ ∈ s.link.buffer → exec (k.request tag body) s = exec .transmitComplete s) ∧
     (⟨k.code, tag, body⟩ ∉ s.link.buffer → s.link.rx = .hunting → ∃ t, exec .transmitComplete s = .next t ∧
       exec (k.request tag body) s = exec (.mlGoodFrame k.code tag body) t) ∧
     (s.link.tx.isRestart = true → ∃ t, exec .transmitComplete s = .next t ∧ exec .restartTakesEffect s = .next t ∧
       t.link.buffer = []))

/-- A request of an unknown kind is answered UNKNOWN_REQUEST, one of a wrong length BAD_LENGTH, one with a screen outside 0..3
BAD_SCREEN before anything else is looked at, and a TUNE to service 0 or above 4095 NO_SERVICE; none has an effect (R45, R46,
R63, R81, R83, R85, R113, R186, R199). -/
def Obligations.UnfitRequestsHaveNoEffect : Prop :=
  (∀ (s : State) (kind tag : Byte) (k : MlKind) (body : List Byte), s.Ready →
     ((∀ j : MlKind, kind ≠ j.code) →
       ∃ t, exec (.mlUnknownRequest kind tag body) s = .next t ∧
         OnlyReplied s t ⟨kind, tag, body⟩ .unknownRequest .none) ∧
     (body.length ∉ k.bodyLengths →
       ∃ t, exec (k.request tag body) s = .next t ∧ OnlyReplied s t ⟨k.code, tag, body⟩ .badLength .none)) ∧
  (∀ (s : State) (tag a b : Byte) (service : Nat) (quads pin : List Byte), s.Ready → 4 ≤ a.toNat → quads.length = 4 →
     (pin = [] ∨ pin.length = 2) →
     (∀ x ∈ [(MlKind.tune, a :: beBytes 2 service), (.untune, [a]), (.screenReport, [a]),
         (.purchase, a :: beBytes 2 service ++ pin), (.unlock, a :: pin), (.relock, [a]), (.setCeilings, a :: quads ++ pin)],
       ∃ t, exec (x.1.request tag x.2) s = .next t ∧ OnlyReplied s t ⟨x.1.code, tag, x.2⟩ .badScreen .none) ∧
     (b.toNat < 4 → service = 0 ∨ (4095 < service ∧ service ≤ 65535) →
       ∃ t, exec (.tune tag (b :: beBytes 2 service)) s = .next t ∧
         OnlyReplied s t ⟨0x03, tag, b :: beBytes 2 service⟩ .noService .none))

/-! ### Starts and supply -/

/-- A cold start puts every block at its cold values whatever stood before, and behind its START notice files one RENTALS notice
for the rentals it ended and a BILLING notice for a hold it ended; a warm start with no room-clock test due keeps the
retention domain whole and gives the volatile blocks their start values, with a START notice marked WARM. The reset pin makes
the start that a power-on makes of the clock as it counted on meanwhile (R64, R75, R79, R90, R91, R108, R109, R196, R197).
The model's choices in it: reset is a cold start (log 2), the supply's rows (log 12), the outputs and the transmitters after a
start (log 13), the notices of a cold start (log 40) and the seconds of the reset pin (log 43). -/
def Obligations.AStartIsWarmOrCold : Prop :=
  (∀ (s : State) (order : List ClockTask), (s.rentals.map (·.index)).Nodup →
     exec (.powerOn false order) s = .next { State.reset with
       link := { State.reset.link with notices := State.reset.link.notices ++
         (if s.rentals = [] then [] else [⟨.rentals, .rentals [], s.rentals.length⟩]) ++
         (if s.charges.entries.head?.any (fun e => e.state == .declined) then [⟨.billing, .billing none 0, 1⟩] else []) }
       pending := s.pending }) ∧
  (∀ (s : State) (order : List ClockTask),
     (s.clock.isSet = true →
       (∀ r ∈ s.rentals, s.clock.count < r.stop) ∧ s.room.period.any (fun p => decide (s.clock.count < p.stop)) = true) →
     exec (.powerOn true order) s = .next { State.reset with
         lastStart := .warm
         clock := { s.clock with run := 0 }
         lock := { s.lock with
           lockoutEnd := if s.lock.lockout = true then some 900 else none, unlocks := State.reset.lock.unlocks }
         room := s.room
         rentals := s.rentals.map Rental.unseated
         charges := s.charges
         link := { State.reset.link with notices := [⟨.start, .start
           ⟨.warm, s.room.retentionLost, s.room.address, s.room.occupancy, s.room.session, s.charges.entries.length,
             s.charges.entries.head?.any (fun e => e.state == .declined), s.rentals.length, s.lock.pin.isSome, false, 0⟩,
           1⟩] }
         pending := s.pending }) ∧
  (∀ (s : State) (good : Bool) (held : Nat) (order : List ClockTask), s.powered = true →
     ∃ t, exec (.resetPin ⟨good, held⟩ order) s = .next t ∧
       (s.clock.isSet = true → exec (.powerOn good order)
         { s with clock := { s.clock with count := min (s.clock.count + held) 4294967295 } } = .next t) ∧
       (s.clock.isSet = false → exec (.powerOn good order) s = .next t))

/-- Power loss stops the part: nothing changes but the supply, and until the next power-on only a SET room clock counts, on the backup
supply, without any test (what else an unpowered part ignores is log 12). An UNSET clock and one at its highest count do not
count at all (R90, R108). -/
def Obligations.WithoutSupplyOnlyTheClockCounts : Prop :=
  (∀ (s : State) (c : Instr) (order : List ClockTask),
     exec .powerLoss s = .next { s with powered := false } ∧
     (s.powered = false →
       ((∀ good o, c ≠ .powerOn good o) → (∀ o, c ≠ .roomClockSecond o) → exec c s = .next s) ∧
       exec (.roomClockSecond order) s = .next (if s.clock.isSet = true ∧ s.clock.count < 4294967295 then
         { s with clock := { s.clock with count := s.clock.count + 1 } } else s))) ∧
  (∀ (s : State) (order : List ClockTask), s.clock.isSet = false ∨ 4294967295 ≤ s.clock.count →
     exec (.roomClockSecond order) s = .next s)

/-- A host RESTART takes effect when its reply has left: the buffer is discarded, every lane untuned with its shutdown flag kept,
every unlock ended, the notice queue, modes and armed marks reset and START raised; the rest stands, and the transmitter goes
on to the oldest answer that waits (R65, R105, R185, R195, R197). -/
def Obligations.ARestartTakesEffectAfterItsReply : Prop :=
  ∀ (s : State), s.powered = true → s.link.tx.isRestart = true → s.SeatsOk →
    ∃ t, exec .restartTakesEffect s = .next t ∧
      (∀ n : Screen, t.lane n = ⟨none, .off, false, ⟨15, 15, 15, 15⟩, (s.lane n).shutdown, none, .none⟩ ∧
        t.unlockOf n = none) ∧
      t.rentals = s.rentals.map Rental.unseated ∧
      t.lock = { s.lock with unlocks := t.lock.unlocks } ∧
      t.room = s.room ∧
      t.link = { s.link with
        tx := (match s.link.answers with
          | [] => .idle
          | a :: _ => .sending a)
        answers := s.link.answers.tail, buffer := [], modes := State.reset.link.modes, armed := State.reset.link.armed
        notices := [⟨.start, .start (t.startView .restart), 1⟩] } ∧
      OnlyViewing s { t with lock := s.lock, link := s.link }

/-! ### Time -/

/-- A run tick with no timer due counts the run seconds, saturating, and the silence of an UP line, and changes nothing else; one that
finds timers due takes them all, in whatever order: previews, unlocks, the lockout and the line's silence (R56, R75, R80, R91,
R179). That the tick itself takes them is log 5. -/
def Obligations.ARunTickTakesEveryTimer : Prop :=
  (∀ (s : State) (order : List RunTimer), s.powered = true →
     (∀ n : Screen, (∀ e ∈ (s.lane n).previewEnd, min (s.clock.run + 1) 4294967295 < e) ∧
       (∀ u ∈ s.unlockOf n, min (s.clock.run + 1) 4294967295 < u.stop)) →
     (∀ e ∈ s.lock.lockoutEnd, min (s.clock.run + 1) 4294967295 < e) →
     (s.line.up = true → s.line.silence < 299) →
     exec (.runTick order) s = .next { s with
       clock := { s.clock with run := min (s.clock.run + 1) 4294967295 }
       line := { s.line with silence := if s.line.up = true then s.line.silence + 1 else s.line.silence } }) ∧
  (∀ (s : State) (order : List RunTimer), s.powered = true → s.line.Ok → s.lock.Ok →
     ∃ t, exec (.runTick order) s = .next t ∧
       t.clock.run = min (s.clock.run + 1) 4294967295 ∧
       (∀ n : Screen, ∀ e ∈ (t.lane n).previewEnd, t.clock.run < e ∨ t.clock.run = 4294967295) ∧
       (s.SeatsOk → ∀ n : Screen, s.unlockOf n = none → (s.lane n).state = .preview →
         ∀ e ∈ (s.lane n).previewEnd, e ≤ t.clock.run →
           (t.lane n).previewEnd = none ∧ (t.lane n).state ≠ .preview) ∧
       (∀ n : Screen, ∀ u ∈ t.unlockOf n, t.clock.run < u.stop ∧ s.unlockOf n = some u) ∧
       (∀ e ∈ t.lock.lockoutEnd, t.clock.run < e) ∧
       t.line = { s.line with
         up := s.line.up && decide (s.line.silence + 1 < 300), silence := min (s.line.silence + 1) 300 })

/-- A preview expires when the run seconds reach its end: the end is dropped, the lane leaves PREVIEW and the service is in the
preview-used list. An unlock ends when they reach its end, and the lane is re-admitted without it. Other lanes' settings,
other unlocks and the rest of the Lock Unit stand (R56, R80). -/
def Obligations.PreviewsAndUnlocksExpire : Prop :=
  (∀ (s : State) (n : Screen) (service stop : Nat), s.powered = true →
     (s.lane n).tuned = some service → (s.lane n).standing = .none → (s.lane n).previewEnd = some stop →
     stop ≤ s.clock.run →
     ∃ t, exec (.previewExpiry n) s = .next t ∧
       (t.lane n).previewEnd = none ∧ (t.lane n).state ≠ .preview ∧ service ∈ t.room.previewUsed ∧
       (t.lane n).settings = (s.lane n).settings ∧ (∀ m : Screen, m ≠ n → t.lane m = s.lane m) ∧ OnlyViewing s t ∧
       (s.rentals.any (fun r => r.service == service) = false → (s.lane n).shutdown = false →
         s.room.occupancy = .occupied →
         ∀ e ∈ s.lineup.active.find? (fun e => e.service == service), e.terms.code = 2 → e.adult = false →
           (ratingCompare (s.lane n).rating (s.ceiling n)).any = false →
           (t.lane n).state = .blank .purchaseNeeded)) ∧
  (∀ (s : State) (n : Screen) (u : Unlock), s.powered = true → s.unlockOf n = some u → u.stop ≤ s.clock.run →
     ∃ t, exec (.unlockExpiry n) s = .next t ∧
       t.unlockOf n = none ∧ (∀ m : Screen, m ≠ n → t.unlockOf m = s.unlockOf m) ∧
       t.lock = { s.lock with unlocks := t.lock.unlocks } ∧
       (∀ m : Screen, (t.lane m).settings = (s.lane m).settings) ∧ OnlyViewing s { t with lock := s.lock } ∧
       ((s.lane n).shutdown = false → (s.lane n).tuned.isSome → s.room.occupancy = .occupied →
         ∀ e ∈ (s.lane n).tuned.bind s.entry, e.adult = false →
           (ratingCompare (s.lane n).rating (s.ceiling n)).any = true →
           (t.lane n).state = .blank .locked ∧ (t.lane n).standing = .none ∧ (t.lane n).previewEnd = none))

/-- The lockout's end clears the flag and the count and reports the PIN record; a line silent for 300 run seconds goes DOWN and reports
it; a key half whose valid-until the SET clock has reached becomes EMPTY with its fields 0, its partner and everything else
standing (R25, R75, R78, R179, R180). -/
def Obligations.DueTimersEnd : Prop :=
  (∀ (s : State) (stop : Nat), s.powered = true →
     (s.lock.lockout = true → s.lock.lockoutEnd = some stop → stop ≤ s.clock.run →
       ∃ t, exec .lockoutEnd s = .next t ∧
         t = { s with lock := { s.lock with failures := 0, lockout := false, lockoutEnd := none }, link := t.link } ∧
         OnlyNotices s t ∧
         (s.link.modes.pin = .every → Shows t .pin (.pin ⟨s.lock.pin.isSome, 0, false, none⟩))) ∧
     (s.line.up = true → 300 ≤ s.line.silence →
       ∃ t, exec .lineDown s = .next t ∧
         t = { s with line := { s.line with up := false, silence := 300 }, link := t.link } ∧ OnlyNotices s t ∧
         (s.link.modes.line ∈ [.every, .faultOnly] → Shows t .line (.line false s.clock.run)))) ∧
  (∀ (s : State) (slot : Fin 16) (p : Parity),
     s.powered = true → s.clock.isSet = true → (s.half slot p).state ≠ .empty → (s.half slot p).validUntil ≤ s.clock.count →
     ∃ t, exec (.keyExpiry slot p) s = .next t ∧
       t.half slot p = ⟨.empty, 0, 0, 0⟩ ∧ t.half slot (partner p) = s.half slot (partner p) ∧
       (∀ k : Fin 16, k ≠ slot → t.keys.get k = s.keys.get k) ∧ t = { s with keys := t.keys })

/-- A room-clock second of a SET clock counts, and every test is made against the new count, in whatever order: no key half,
rental or cap period whose end is reached is left and no other half is touched, an EVENT that ends goes off the air and one
that starts comes on, and a rental that stays is metered at most once, exactly by its holders where metering comes first
(R25, R54, R90, R101, R121, R123). That metering comes first where `order` names no test is the model's choice, log 4. -/
def Obligations.ARoomClockSecondMakesEveryTest : Prop :=
  ∀ (s : State) (order : List ClockTask),
    s.powered = true → s.clock.isSet = true → s.clock.count < 4294967295 →
    (s.rentals.map (·.index)).Nodup → s.room.terms.capReset ≤ 86399 →
    ∃ t, exec (.roomClockSecond order) s = .next t ∧
      t.clock = { s.clock with count := s.clock.count + 1 } ∧
      (∀ (slot : Fin 16) (p : Parity), t.half slot p =
        if (s.half slot p).state ≠ .empty ∧ (s.half slot p).validUntil ≤ s.clock.count + 1 then ⟨.empty, 0, 0, 0⟩
        else s.half slot p) ∧
      t.rentals.map (·.index) = (s.rentals.filter (fun r => decide (s.clock.count + 1 < r.stop))).map (·.index) ∧
      (∀ p ∈ t.room.period, s.clock.count + 1 < p.stop) ∧
      (∀ n : Screen, (t.lane n).settings = (s.lane n).settings ∧
        ∀ e ∈ (s.lane n).tuned.bind s.entry, ∀ w ∈ e.terms.window, w.1 < w.2 → s.room.occupancy = .occupied →
          (s.clock.count + 1 = w.2 → (s.lane n).shutdown = false → e.adult = false →
            (ratingCompare (s.lane n).rating (s.ceiling n)).any = false →
            (t.lane n).state = .blank .offAir ∧ (t.lane n).standing = .none ∧ (t.lane n).previewEnd = none) ∧
          (s.clock.count + 1 = w.1 → (t.lane n).state ≠ .blank .offAir)) ∧
      (∀ r ∈ s.rentals, ∀ x ∈ t.rentals, x.index = r.index →
        (x.viewed = r.viewed ∨ x.viewed = min (r.viewed + 1) 172800) ∧
        (order = [] ∨ order.head? = some .metering →
          x.viewed = if r.seats = [] then r.viewed else min (r.viewed + 1) 172800)) ∧
      t.charges = s.charges ∧ t.lock = s.lock ∧ t.lineup = s.lineup ∧ t.line = s.line ∧ OnlyNotices s t

/-- Metering: at a room-clock second a rental with a holder counts one viewed second, up to 172,800, and one without counts
none; a second that nothing else falls due on changes no more, whatever the order of its tests (R121). -/
def Obligations.ASecondMetersTheRentalsInView : Prop :=
  ∀ (s : State) (order : List ClockTask),
    s.powered = true → s.clock.isSet = true → s.clock.count < 4294967295 →
    (∀ r ∈ s.rentals, s.clock.count + 1 < r.stop) → (∀ p ∈ s.room.period, s.clock.count + 1 < p.stop) →
    (∀ (slot : Fin 16) (p : Parity), (s.half slot p).state = .empty ∨ s.clock.count + 1 < (s.half slot p).validUntil) →
    (∀ e ∈ s.lineup.active, ∀ w ∈ e.terms.window, w.1 ≠ s.clock.count + 1 ∧ w.2 ≠ s.clock.count + 1) →
    exec (.roomClockSecond order) s = .next { s with
      clock := { s.clock with count := s.clock.count + 1 }
      rentals := s.rentals.map (fun r =>
        if r.seats = [] then r else { r with viewed := min (r.viewed + 1) 172800 }) }

/-- A rental whose end the SET clock has reached leaves the list, every lane of its service has no standing left, and the queue, the
totals and the other rentals stand. At an EVENT's end every lane tuned to it that passes the checks before entitlement is
BLANK, OFF_AIR, and holds no seat; at its start no lane tuned to it stays OFF_AIR (R48, R54, R122, R123). -/
def Obligations.RentalsAndEventsEnd : Prop :=
  (∀ (s : State) (r : Rental),
     s.powered = true → s.clock.isSet = true → s.SeatsOk → r ∈ s.rentals → r.stop ≤ s.clock.count →
     ∃ t, exec (.rentalExpiry r.index) s = .next t ∧
       t.rentals = s.rentals.filter (fun x => x.index ≠ r.index) ∧
       (∀ n : Screen, (t.lane n).settings = (s.lane n).settings ∧
         ((s.lane n).tuned = some r.service → (t.lane n).standing = .none) ∧
         ((s.lane n).tuned ≠ some r.service → t.lane n = s.lane n)) ∧
       OnlyViewing s t ∧ (s.link.modes.rentals = .every →
         Shows t .rentals (.rentals (t.rentals.map (fun x => ⟨x.index, x.service, x.stop⟩))))) ∧
  (∀ (s : State) (service : BitVec 12) (e : LineupEntry) (code : Fin 32) (preview start stop : Nat),
     s.powered = true → s.clock.isSet = true → s.SeatsOk → s.room.occupancy = .occupied → e ∈ s.entry service.toNat →
     e.adult = false → e.terms = .event code preview start stop → start < stop →
     s.clock.count = start ∨ s.clock.count = stop →
     ∃ t, exec (.eventWindowEdge service) s = .next t ∧
       (∀ n : Screen, (t.lane n).settings = (s.lane n).settings ∧
         (s.clock.count = stop → (s.lane n).tuned = some service.toNat → (s.lane n).shutdown = false →
           (ratingCompare (s.lane n).rating (s.ceiling n)).any = false →
           (t.lane n).state = .blank .offAir ∧ (t.lane n).standing = .none ∧ (t.lane n).previewEnd = none) ∧
         (s.clock.count = start → (s.lane n).tuned = some service.toNat → (t.lane n).state ≠ .blank .offAir) ∧
         ((s.lane n).tuned ≠ some service.toNat → t.lane n = s.lane n)) ∧
       OnlyViewing s t)

/-- A boundary of the cap period is the first instant later than t whose second of the day is the cap reset; at a rollover the billed
total becomes 0, the period is the one that contains the clock, nothing else of the room changes and ROOM is reported (R100,
R101, R107). -/
def Obligations.TheCapPeriodRollsOver : Prop :=
  (∀ (t capReset : Nat), capReset ≤ 86399 →
     t < boundaryAfter t capReset ∧ boundaryAfter t capReset % 86400 = capReset ∧
     ∀ x, t < x → x % 86400 = capReset → boundaryAfter t capReset ≤ x) ∧
  (∀ (s : State) (p : CapWindow),
     s.powered = true → s.clock.isSet = true → s.room.period = some p → p.stop ≤ s.clock.count →
     s.room.terms.capReset ≤ 86399 → s.room.terms.capReset ≤ s.clock.count →
     ∃ t q, exec .capPeriodRollover s = .next t ∧
       t = { s with room := { s.room with billed := 0, period := some q }, link := t.link } ∧ OnlyNotices s t ∧
       q.start ≤ s.clock.count ∧ s.clock.count < q.stop ∧ q.stop = q.start + 86400 ∧
       q.start % 86400 = s.room.terms.capReset ∧ Shows t .room (.room t.roomView))

/-- TIME_SET: the clock becomes t and SET, every test is made against t in whatever order (key halves, rentals, the cap period,
and every tuned lane's event window), and a CLOCK notice tells how the clock moved (R26, R54, R100, R101, R123, R175, R176). -/
def Obligations.TimeSetMakesEveryTest : Prop :=
  ∀ (s : State) (address : BitVec 10) (v : Nat) (order : List ClockTask),
    s.AddressedBy address ∨ s.BroadcastBy address → v ≤ 4294967295 → (s.rentals.map (·.index)).Nodup →
    s.room.terms.capReset ≤ 86399 →
    ∃ t, exec (.timeSet address (beBytes 4 v) order) s = .next t ∧ Took t address ∧
      t.clock = ⟨true, v, s.clock.run⟩ ∧ t.line.latched = flagsAfter s.line.latched address ∧
      (∀ (slot : Fin 16) (p : Parity), t.half slot p =
        if (s.half slot p).state ≠ .empty ∧ (s.half slot p).validUntil ≤ v then ⟨.empty, 0, 0, 0⟩ else s.half slot p) ∧
      t.rentals.map (·.index) = (s.rentals.filter (fun r => decide (v < r.stop))).map (·.index) ∧
      (s.room.period = none → t.room.period = some ⟨v, boundaryAfter v s.room.terms.capReset⟩) ∧
      (∀ p ∈ s.room.period, v < p.stop → t.room.period = some p ∧ t.room.billed = s.room.billed) ∧
      (∀ p ∈ s.room.period, p.stop ≤ v → t.room.billed = 0 ∧ ∀ q ∈ t.room.period, v < q.stop) ∧
      (∀ n : Screen, (t.lane n).settings = (s.lane n).settings ∧
        ∀ e ∈ (s.lane n).tuned.bind s.entry, ∀ w ∈ e.terms.window, s.room.occupancy = .occupied →
          (v < w.1 ∨ w.2 ≤ v → (s.lane n).shutdown = false → e.adult = false →
            (ratingCompare (s.lane n).rating (s.ceiling n)).any = false →
            (t.lane n).state = .blank .offAir ∧ (t.lane n).standing = .none ∧ (t.lane n).previewEnd = none) ∧
          (w.1 ≤ v → v < w.2 → (t.lane n).state ≠ .blank .offAir)) ∧
      t.charges = s.charges ∧ t.lock = s.lock ∧ t.lineup = s.lineup ∧ t.prices = s.prices ∧ OnlyNotices s t ∧
      (s.link.modes.clock = .every → Shows t .clock (.clock v (if s.clock.isSet = false then .first
        else if s.clock.count < v then .forward else if v < s.clock.count then .backward else .none)))

/-! ### Cells -/

/-- The transform of a payload: output block j is input block j exclusive-or s(j+1), where s0 is the control word exclusive-or the
continuity count in each byte and s(j+1) follows s(j) by the constants of R36; and the transform is its own inverse. -/
def Obligations.TheTransformIsTheKeystream : Prop :=
  (∀ (word : ControlWord) (continuity : BitVec 4) (payload : List Byte) (x : Nat → BitVec 64) (j : Nat),
     payload.length = 192 →
     x 0 = word ^^^ (BitVec.ofNat 64 (continuity.toNat * 0x0101010101010101)) →
     (∀ i, x (i + 1) = BitVec.ofNat 64 ((x i).toNat * 0x9C6B3A5D21E74F15 + 0x3B1D7E290A56C4E7)) → j < 24 →
     (transform word continuity payload).length = 192 ∧
     field (transform word continuity payload) (8 * j) 8 =
       (BitVec.ofNat 64 (field payload (8 * j) 8) ^^^ x (j + 1)).toNat) ∧
  (∀ (word : ControlWord) (continuity : BitVec 4) (payload : List Byte), payload.length ≤ 192 →
     transform word continuity (transform word continuity payload) = payload)

/-- A CLEAR cell of the tuned service on an OPEN or PREVIEW lane is passed unchanged and clears the key-miss flag; a scrambled one
without a usable half is a key miss, a null cell and the flag set, with no half and no lane state changed; any other cell
gives a null cell alone (R29 to R32, R35, R43). -/
def Obligations.ACellIsPassedMissedOrNulled : Prop :=
  (∀ (s : State) (n : Screen) (service : BitVec 12) (continuity : BitVec 4) (epoch : BitVec 6) (payload : List Byte),
     s.powered = true →
     ∃ t, exec (.clearCell n service continuity epoch payload) s = .next t ∧ OnlyNotices s t ∧
       (∀ m : Screen, m ≠ n → t.out m = s.out m) ∧ t = { s with lanes := t.lanes, outs := t.outs, link := t.link } ∧
       ((s.lane n).tuned = some service.toNat ∧ ((s.lane n).state = .opened ∨ (s.lane n).state = .preview) →
         t.out n = some ⟨service, .clear, continuity, epoch, payload⟩ ∧
         t.lane n = { s.lane n with keyMiss := false } ∧ ∀ m : Screen, m ≠ n → t.lane m = s.lane m) ∧
       (¬((s.lane n).tuned = some service.toNat ∧ ((s.lane n).state = .opened ∨ (s.lane n).state = .preview)) →
         t.out n = some ⟨0, .clear, 0, 0, List.replicate 192 0⟩ ∧ t.lanes = s.lanes ∧ t.link = s.link)) ∧
  (∀ (s : State) (n : Screen) (p : Parity) (service : BitVec 12) (continuity : BitVec 4) (epoch : BitVec 6)
     (payload : List Byte),
     s.powered = true →
     ((s.lane n).tuned = some service.toNat → (s.lane n).state = .opened ∨ (s.lane n).state = .preview →
       (∀ e ∈ s.entry service.toNat, ∀ slot ∈ e.keySlot,
         (s.half slot p).state = .empty ∨ (s.half slot p).epoch ≠ epoch) →
       ∃ t, exec (.scrambledCell n p service continuity epoch payload) s = .next t ∧ OnlyNotices s t ∧
         t = { s with lanes := t.lanes, outs := t.outs, link := t.link } ∧
         t.out n = some ⟨0, .clear, 0, 0, List.replicate 192 0⟩ ∧ t.lane n = { s.lane n with keyMiss := true } ∧
         (∀ m : Screen, m ≠ n → t.lane m = s.lane m ∧ t.out m = s.out m) ∧
         ((s.lane n).keyMiss = true → t.link = s.link) ∧
         ((s.lane n).keyMiss = false → s.link.modes.lane ∈ [.every, .faultOnly] → Shows t (.lane n) (.lane (t.laneView n)))) ∧
     ((s.lane n).tuned ≠ some service.toNat ∨ ((s.lane n).state ≠ .opened ∧ (s.lane n).state ≠ .preview) →
       ∃ t, exec (.scrambledCell n p service continuity epoch payload) s = .next t ∧
         t = { s with outs := t.outs } ∧ t.out n = some ⟨0, .clear, 0, 0, List.replicate 192 0⟩ ∧
         ∀ m : Screen, m ≠ n → t.out m = s.out m))

/-- A scrambled cell that a lane may show and whose half has its epoch is decoded under that half; a STAGED half then becomes
LIVE and a LIVE partner SPENT (R32, R33). -/
def Obligations.AScrambledCellIsDecoded : Prop :=
  ∀ (s : State) (n : Screen) (p : Parity) (service : BitVec 12) (continuity : BitVec 4) (epoch : BitVec 6)
    (payload : List Byte) (e : LineupEntry) (slot : Fin 16),
    s.powered = true → (s.lane n).tuned = some service.toNat → (s.lane n).state = .opened ∨ (s.lane n).state = .preview →
    e ∈ s.entry service.toNat → e.keySlot = some slot → (s.half slot p).state ≠ .empty → (s.half slot p).epoch = epoch →
    ∃ t, exec (.scrambledCell n p service continuity epoch payload) s = .next t ∧ OnlyNotices s t ∧
      t = { s with lanes := t.lanes, outs := t.outs, keys := t.keys, link := t.link } ∧
      t.out n = some ⟨service, .clear, continuity, epoch, transform (s.half slot p).word continuity payload⟩ ∧
      t.lane n = { s.lane n with keyMiss := false } ∧
      (∀ m : Screen, m ≠ n → t.lane m = s.lane m ∧ t.out m = s.out m) ∧
      (∀ k : Fin 16, k ≠ slot → t.keys.get k = s.keys.get k) ∧
      t.half slot p = (if (s.half slot p).state = .staged then { s.half slot p with state := .live } else s.half slot p) ∧
      t.half slot (partner p) = (if (s.half slot p).state = .staged ∧ (s.half slot (partner p)).state = .live
        then { s.half slot (partner p) with state := .spent } else s.half slot (partner p))

/-- A RATING cell of the tuned service sets the lane's rating from four payload bytes, each held to 15, the lane is re-admitted
and a null cell is placed; no half and no key-miss flag changes. At an OFF lane, or of another service, it gives a null cell
alone (R29, R58). -/
def Obligations.ARatingCellSetsTheRating : Prop :=
  ∀ (s : State) (n : Screen) (service : BitVec 12) (continuity : BitVec 4) (epoch : BitVec 6)
    (a v l x : Byte) (rest : List Byte), s.powered = true →
    ((s.lane n).tuned = some service.toNat → (s.lane n).state ≠ .off →
      ∃ t, exec (.ratingCell n service continuity epoch (a :: v :: l :: x :: rest)) s = .next t ∧
        (t.lane n).rating = ⟨min a.toNat 15, min v.toNat 15, min l.toNat 15, min x.toNat 15⟩ ∧
        (t.lane n).keyMiss = (s.lane n).keyMiss ∧ (t.lane n).tuned = (s.lane n).tuned ∧
        t.out n = some ⟨0, .clear, 0, 0, List.replicate 192 0⟩ ∧
        (∀ m : Screen, m ≠ n → (t.lane m).settings = (s.lane m).settings ∧ t.out m = s.out m) ∧
        OnlyViewing s { t with outs := s.outs } ∧
        (∀ e ∈ s.entry service.toNat, (s.lane n).shutdown = false → s.room.occupancy = .occupied → e.adult = false →
          s.unlockOf n = none → (ratingCompare (t.lane n).rating (s.ceiling n)).any = true →
          (t.lane n).state = .blank .locked ∧ (t.lane n).standing = .none)) ∧
    ((s.lane n).tuned ≠ some service.toNat ∨ (s.lane n).state = .off →
      ∃ t, exec (.ratingCell n service continuity epoch (a :: v :: l :: x :: rest)) s = .next t ∧
        t = { s with outs := t.outs } ∧ t.out n = some ⟨0, .clear, 0, 0, List.replicate 192 0⟩ ∧
        ∀ m : Screen, m ≠ n → t.out m = s.out m)

/-! ### The head-end's commands -/

/-- Staging: a BEGIN empties the standby table and goes to FILLING; an ENTRY in FILLING is taken in its place, replaces the entry
of its service whole, is discarded with the fault mark, or passes staging to OVERFULL; OVERFULL ignores entries and IDLE
latches MESSAGE_ERROR (R5 to R9). The active table is untouched (R14). -/
def Obligations.StagingTakesALineup : Prop :=
  ∀ (s : State) (address : BitVec 10) (g : Byte) (body : List Byte) (staged : Nat),
    s.AddressedBy address ∨ s.BroadcastBy address → body.length = 18 →
    (∃ t, exec (.lineupBegin address [g]) s = .next t ∧ Took t address ∧ HeardLink s t ∧
      t.line.latched = flagsAfter s.line.latched address ∧
      t = { s with
        lineup := { s.lineup with standby := [], fault := false, staging := .filling (max g.toNat 1) }
        line := t.line, link := t.link }) ∧
    (∃ t, exec (.lineupEntry address body) s = .next t ∧ Took t address ∧ HeardLink s t ∧
      t = { s with lineup := t.lineup, line := t.line, link := t.link } ∧
      (s.lineup.staging ≠ .idle → t.line.latched = flagsAfter s.line.latched address) ∧
      (s.lineup.staging = .idle → t.lineup = s.lineup ∧
        t.line.latched = flagsAfter { s.line.latched with messageError := true } address) ∧
      (s.lineup.staging = .overfull staged → t.lineup = s.lineup) ∧
      (s.lineup.staging = .filling staged →
        ((lineupEntryOf body).service = 0 ∨ (∃ w ∈ (lineupEntryOf body).terms.window, w.2 ≤ w.1) →
          t.lineup = { s.lineup with fault := true }) ∧
        ((lineupEntryOf body).service ≠ 0 → (∀ w ∈ (lineupEntryOf body).terms.window, w.1 < w.2) →
          TableOk s.lineup.standby →
          (384 ≤ s.lineup.standby.length → (∀ x ∈ s.lineup.standby, x.service ≠ (lineupEntryOf body).service) →
            t.lineup = { s.lineup with staging := .overfull staged }) ∧
          (s.lineup.standby.length < 384 ∨ (∃ x ∈ s.lineup.standby, x.service = (lineupEntryOf body).service) →
            t.lineup = { s.lineup with standby := t.lineup.standby } ∧ TableOk t.lineup.standby ∧
            lineupEntryOf body ∈ t.lineup.standby ∧
            (∀ x ∈ s.lineup.standby, x.service ≠ (lineupEntryOf body).service → x ∈ t.lineup.standby) ∧
            ∀ x ∈ t.lineup.standby, x = lineupEntryOf body ∨
              (x ∈ s.lineup.standby ∧ x.service ≠ (lineupEntryOf body).service)))))

/-- A commit whose generation and count agree in FILLING with the fault mark clear makes the standby table active, resets every
tuned lane's rating to its new entry and reports the line-up; any other outside IDLE empties the staging and latches
LINEUP_REFUSED; one in IDLE latches MESSAGE_ERROR (R9 to R13). -/
def Obligations.ACommitChangesTheLineupWhole : Prop :=
  ∀ (s : State) (address : BitVec 10) (g hi lo : Byte) (staged : Nat),
    s.AddressedBy address ∨ s.BroadcastBy address →
    ∃ t, exec (.lineupCommit address [g, hi, lo]) s = .next t ∧ Took t address ∧
      (s.lineup.staging = .filling staged → staged = max g.toNat 1 →
        s.lineup.standby.length = hi.toNat * 256 + lo.toNat → s.lineup.fault = false →
        t.lineup = ⟨s.lineup.standby, staged, .idle, [], false⟩ ∧
        t.line.latched = flagsAfter s.line.latched address ∧
        (∀ n : Screen, (t.lane n).tuned = (s.lane n).tuned ∧ (t.lane n).keyMiss = (s.lane n).keyMiss ∧
          (t.lane n).shutdown = (s.lane n).shutdown ∧
          (∀ service ∈ (s.lane n).tuned, (t.lane n).rating = quadOf s.lineup.standby service) ∧
          (∀ service ∈ (s.lane n).tuned, (∀ x ∈ s.lineup.standby, x.service ≠ service) → (s.lane n).shutdown = false →
            (t.lane n).state = .blank .unknownService ∧ (t.lane n).standing = .none)) ∧
        t.rentals.map Rental.unseated = s.rentals.map Rental.unseated ∧
        OnlyViewing s { t with lineup := s.lineup, line := s.line } ∧
        (s.link.modes.lineup = .every → Shows t .lineup (.lineup staged s.lineup.standby.length))) ∧
      ((s.lineup.staging = .overfull staged ∨ (s.lineup.staging = .filling staged ∧
          (staged ≠ max g.toNat 1 ∨ s.lineup.standby.length ≠ hi.toNat * 256 + lo.toNat ∨ s.lineup.fault = true))) →
        t.line.latched = flagsAfter { s.line.latched with lineupRefused := true } address ∧ HeardLink s t ∧
        t = { s with
          lineup := { s.lineup with standby := [], fault := false, staging := .idle }, line := t.line, link := t.link }) ∧
      (s.lineup.staging = .idle →
        t.line.latched = flagsAfter { s.line.latched with messageError := true } address ∧ HeardLink s t ∧
        t = { s with line := t.line, link := t.link })

/-- A PRICE_SET writes one price entry, its terms held to their ranges, and marks it loaded. A KEY_LOAD stages its half unless the
half is LIVE or the SET clock has reached its valid-until, which latch KEY_REFUSED and change no half; the partner and the
lanes stand (R17, R21, R22). -/
def Obligations.APriceOrAKeyIsLoaded : Prop :=
  (∀ (s : State) (address : BitVec 10) (code hi lo hours allowance grace : Byte),
     s.AddressedBy address ∨ s.BroadcastBy address →
     ∃ t, exec (.priceSet address [code, hi, lo, hours, allowance, grace]) s = .next t ∧ Took t address ∧ HeardLink s t ∧
       t.line.latched = flagsAfter s.line.latched address ∧ t = { s with prices := t.prices, line := t.line, link := t.link } ∧
       ∀ k : Fin 32, t.prices.get k = if k.val = min code.toNat 31 then
         ⟨hi.toNat * 256 + lo.toNat, max 1 (min hours.toNat 48), max 1 (min allowance.toNat 4), min grace.toNat 15, true⟩
         else s.prices.get k) ∧
  (∀ (s : State) (address : BitVec 10) (k : KeyLoad), k.validUntil ≤ 4294967295 →
     s.AddressedBy address ∨ s.BroadcastBy address →
     ∃ t, exec (.keyLoad address k.layout) s = .next t ∧ Took t address ∧ HeardLink s t ∧
       t = { s with keys := t.keys, line := t.line, link := t.link } ∧
       t.half k.slot (partner k.parity) = s.half k.slot (partner k.parity) ∧
       (∀ j : Fin 16, j ≠ k.slot → t.keys.get j = s.keys.get j) ∧
       ((s.half k.slot k.parity).state = .live ∨ (s.clock.isSet = true ∧ k.validUntil ≤ s.clock.count) →
         t.keys = s.keys ∧ t.line.latched = flagsAfter { s.line.latched with keyRefused := true } address) ∧
       ((s.half k.slot k.parity).state ≠ .live → (s.clock.isSet = false ∨ s.clock.count < k.validUntil) →
         t.half k.slot k.parity = ⟨.staged, k.word, k.epoch, k.validUntil⟩ ∧
         t.line.latched = flagsAfter s.line.latched address))

/-- ROOM_RESET ends every unlock and every preview, whose lane is then PURCHASE_NEEDED or LOCKED, clears every shutdown flag and
then the latched flags; SCREEN_SHUTDOWN and SCREEN_RESTORE set and clear the flags of the screens their mask names, and a tuned
screen shut down is BLANK, SHUTDOWN; none of them touches the stay (R57, R60, R66, R177). -/
def Obligations.ScreensAreShutRestoredAndReset : Prop :=
  ∀ (s : State) (address : BitVec 10) (mask : Byte),
    (s.AddressedBy address ∨ s.BroadcastBy address →
      ∃ t, exec (.roomReset address []) s = .next t ∧ Took t address ∧
        t.line.latched = flagsAfter ⟨false, false, false, false⟩ address ∧
        (∀ n : Screen, t.unlockOf n = none ∧ (t.lane n).settings =
          ((s.lane n).tuned, (s.lane n).keyMiss, (s.lane n).rating, false)) ∧
        t.lock = { s.lock with unlocks := t.lock.unlocks } ∧
        t.rentals.map Rental.unseated = s.rentals.map Rental.unseated ∧
        (s.SeatsOk → ∀ n : Screen, (s.lane n).state = .preview → (t.lane n).state ≠ .preview ∧
          (t.lane n).previewEnd = none ∧
          ∀ e ∈ (s.lane n).tuned.bind s.entry, e.terms.code = 2 → s.room.occupancy = .occupied → e.adult = false →
            (∀ r ∈ s.rentals, r.service ≠ e.service) →
            (t.lane n).state = .blank (if (ratingCompare (s.lane n).rating (s.ceiling n)).any = true then .locked
              else .purchaseNeeded)) ∧
        OnlyViewing s { t with lock := s.lock, line := s.line }) ∧
    (s.AddressedBy address →
      (∃ t, exec (.screenShutdown address [mask]) s = .next t ∧ Answered t address .none none ∧
        t.line.latched = s.line.latched ∧
        (∀ n : Screen, (t.lane n).settings = ((s.lane n).tuned, (s.lane n).keyMiss, (s.lane n).rating,
            (s.lane n).shutdown || mask.getLsbD n.val) ∧
          (mask.getLsbD n.val = true → (s.lane n).tuned.isSome →
            (t.lane n).state = .blank .shutdown ∧ (t.lane n).standing = .none ∧ (t.lane n).previewEnd = none)) ∧
        t.rentals.map Rental.unseated = s.rentals.map Rental.unseated ∧
        OnlyViewing s { t with line := s.line }) ∧
      ∃ t, exec (.screenRestore address [mask]) s = .next t ∧ Answered t address .none none ∧
        t.line.latched = s.line.latched ∧
        (∀ n : Screen, (t.lane n).settings = ((s.lane n).tuned, (s.lane n).keyMiss, (s.lane n).rating,
            (s.lane n).shutdown && !mask.getLsbD n.val)) ∧
        t.rentals.map Rental.unseated = s.rentals.map Rental.unseated ∧
        OnlyViewing s { t with line := s.line })

/-- A CHECK_IN with a session number other than 0 opens a stay, from VACANT, CLOSING or another session's OCCUPIED: the Room
Record, the PIN record and the ceilings are as the command gives, every unlock and rental has ended, and the queue stands
(R92, R95). -/
def Obligations.ACheckInOpensAStay : Prop :=
  ∀ (s : State) (address : BitVec 10) (body : List Byte),
    s.AddressedBy address → body.length = 34 → (checkInOf body).session ≠ 0 →
    s.room.occupancy ≠ .occupied ∨ (checkInOf body).session ≠ s.room.session → s.VacancyOk →
    ∃ t, exec (.checkIn address body) s = .next t ∧ Answered t address .none none ∧ t.line.latched = s.line.latched ∧
      t.room = { address := s.room.address, occupancy := .occupied, session := (checkInOf body).session,
                 terms := (checkInOf body).terms, spend := 0,
                 period := if s.clock.isSet = true then
                   some ⟨s.clock.count, boundaryAfter s.clock.count (checkInOf body).terms.capReset⟩ else none,
                 billed := 0, history := [], previewUsed := t.room.previewUsed, retentionLost := false } ∧
      t.rentals = [] ∧ t.charges = s.charges ∧ t.clock = s.clock ∧ t.lineup = s.lineup ∧ t.keys = s.keys ∧
      t.lock.pin = (checkInOf body).pin ∧ t.lock.failures = 0 ∧ t.lock.lockout = false ∧ t.lock.lockoutEnd = none ∧
      (∀ n : Screen, t.ceiling n = (checkInOf body).ceilings ∧ t.unlockOf n = none ∧
        (t.lane n).settings = (s.lane n).settings) ∧
      OnlyNotices s t ∧ Shows t .room (.room t.roomView)

/-- A ROOM_UPDATE in OCCUPIED stores every term, the cap raised to the billed total; a CHECK_IN with the session in force is the
ROOM_UPDATE of its terms; a ROOM_UPDATE otherwise and a CHECK_IN with session 0 latch MESSAGE_ERROR (R93, R94, R98, R99, R102). -/
def Obligations.AStayIsRefreshed : Prop :=
  ∀ (s : State) (address : BitVec 10) (body : List Byte), s.AddressedBy address →
    (body.length = 26 → s.room.occupancy = .occupied →
      ∃ t, exec (.roomUpdate address body) s = .next t ∧ Answered t address .none none ∧
        t.line.latched = s.line.latched ∧
        t.room = { s.room with
          terms := { stayTermsOf body with
            cap := if (stayTermsOf body).cap = 0 then 0 else max (stayTermsOf body).cap s.room.billed }
          period := if (stayTermsOf body).capReset = s.room.terms.capReset then s.room.period else s.room.period.map
            (fun p => ⟨p.start, boundaryAfter (max s.clock.count p.start) (stayTermsOf body).capReset⟩)
          previewUsed := t.room.previewUsed } ∧
        (∀ n : Screen, (t.lane n).settings = (s.lane n).settings) ∧
        t.rentals.map Rental.unseated = s.rentals.map Rental.unseated ∧
        OnlyViewing s { t with room := { s.room with previewUsed := t.room.previewUsed }, line := s.line } ∧
        Shows t .room (.room t.roomView)) ∧
    (body.length = 34 → s.room.occupancy = .occupied → (checkInOf body).session = s.room.session → s.room.session ≠ 0 →
      exec (.checkIn address body) s = exec (.roomUpdate address ((body.drop 2).take 26)) s) ∧
    ((body.length = 26 ∧ s.room.occupancy ≠ .occupied →
        ∃ t, exec (.roomUpdate address body) s = .next t ∧ Answered t address .none none ∧ HeardLink s t ∧
          t.line.latched = { s.line.latched with messageError := true } ∧ t = { s with line := t.line, link := t.link }) ∧
      (body.length = 34 ∧ (checkInOf body).session = 0 →
        ∃ t, exec (.checkIn address body) s = .next t ∧ Answered t address .none none ∧ HeardLink s t ∧
          t.line.latched = { s.line.latched with messageError := true } ∧ t = { s with line := t.line, link := t.link }))

/-- A CHECK_OUT of an OCCUPIED room ends every rental and unlock, turns the adult permit and the packages off, empties the
preview-used list and leaves CLOSING or VACANT by the queue; in VACANT and CLOSING it changes nothing (R96, R97). -/
def Obligations.ACheckOutClosesTheStay : Prop :=
  ∀ (s : State) (address : BitVec 10), s.AddressedBy address →
    (s.room.occupancy = .occupied →
      ∃ t, exec (.checkOut address []) s = .next t ∧ Answered t address .none none ∧ t.line.latched = s.line.latched ∧
        t.room = { s.room with
          terms := { s.room.terms with adult := false, packages := 0 }, previewUsed := []
          occupancy := if s.charges.entries = [] then .vacant else .closing } ∧
        t.rentals = [] ∧ t.charges = s.charges ∧ t.lock = { s.lock with unlocks := t.lock.unlocks } ∧
        (∀ n : Screen, t.unlockOf n = none ∧ (t.lane n).settings = (s.lane n).settings ∧
          (∀ e ∈ (s.lane n).tuned.bind s.entry, e.terms.code ≠ 0 → (s.lane n).shutdown = false →
            (t.lane n).state = .blank .vacant ∧ (t.lane n).standing = .none ∧ (t.lane n).previewEnd = none)) ∧
        OnlyViewing s { t with room := s.room, lock := s.lock, line := s.line } ∧ Shows t .room (.room t.roomView)) ∧
    (s.room.occupancy ≠ .occupied →
      ∃ t, exec (.checkOut address []) s = .next t ∧ Answered t address .none none ∧ HeardLink s t ∧
        t.line.latched = s.line.latched ∧ t = { s with line := t.line, link := t.link })

/-- The folio exchange up to a settlement: a STATUS_POLL changes nothing; a COLLECT offers a WAITING head and carries the head; a
CONFIRM removes the OFFERED head of its number; a DECLINE makes an OFFERED CHARGE head DECLINED; any other number is STALE or
NOT_HEAD (R97, R150 to R152, R156, R174). -/
def Obligations.TheFolioCollectsConfirmsAndDeclines : Prop :=
  ∀ (s : State) (address : BitVec 10) (hi lo : Byte), s.AddressedBy address →
    (∃ t, exec (.statusPoll address []) s = .next t ∧ Answered t address .none none ∧ HeardLink s t ∧
      t.line.latched = s.line.latched ∧ t = { s with line := t.line, link := t.link }) ∧
    (∃ t, exec (.collect address []) s = .next t ∧ Answered t address .none t.charges.entries.head? ∧ HeardLink s t ∧
      t.line.latched = s.line.latched ∧
      t.charges.entries = (match s.charges.entries with
        | [] => []
        | e :: rest => (if e.state = .waiting then { e with state := .offered } else e) :: rest) ∧
      t = { s with charges := { s.charges with entries := t.charges.entries }, line := t.line, link := t.link }) ∧
    ((∀ e ∈ s.charges.entries, e.number ≠ hi.toNat * 256 + lo.toNat) → ∀ c ∈ [Instr.confirm address [hi, lo], .decline address [hi, lo]],
      ∃ t, exec c s = .next t ∧ Answered t address .stale none ∧ HeardLink s t ∧ t.line.latched = s.line.latched ∧
        t = { s with line := t.line, link := t.link }) ∧
    (∀ e rest, s.charges.entries = e :: rest → e.number = hi.toNat * 256 + lo.toNat → e.state = .offered →
      (∃ t, exec (.confirm address [hi, lo]) s = .next t ∧ Answered t address .none none ∧
        t.line.latched = s.line.latched ∧ OnlyNotices s t ∧
        t = { s with
          charges := { s.charges with entries := rest }, line := t.line, link := t.link
          room := { s.room with occupancy := if s.room.occupancy = .closing ∧ rest = [] then .vacant
            else s.room.occupancy } } ∧
        (s.room.occupancy = .closing → rest = [] → Shows t .room (.room t.roomView))) ∧
      (e.kind = .charge → ∃ t, exec (.decline address [hi, lo]) s = .next t ∧ Answered t address .none none ∧
        t.line.latched = s.line.latched ∧ OnlyNotices s t ∧
        t = { s with
          charges := { s.charges with entries := { e with state := .declined } :: rest }, line := t.line, link := t.link } ∧
        Shows t .billing (.billing (some ⟨e.number, e.session, e.service, e.amount⟩) (rest.length + 1)))) ∧
    (∀ e rest, s.charges.entries = e :: rest → (∃ x ∈ s.charges.entries, x.number = hi.toNat * 256 + lo.toNat) →
      (e.number ≠ hi.toNat * 256 + lo.toNat ∨ (e.state ≠ .offered ∧ e.kind = .charge)) →
      ∀ c ∈ [Instr.confirm address [hi, lo], .decline address [hi, lo]],
        ∃ t, exec c s = .next t ∧ Answered t address .notHead none ∧ HeardLink s t ∧ t.line.latched = s.line.latched ∧
          t = { s with line := t.line, link := t.link }) ∧
    (∀ e rest n, s.charges.entries = e :: rest → e.number = hi.toNat * 256 + lo.toNat → e.kind = .credit n →
      ∃ t, exec (.decline address [hi, lo]) s = .next t ∧ Answered t address .none none ∧ HeardLink s t ∧
        t.line.latched = { s.line.latched with messageError := true } ∧ t = { s with line := t.line, link := t.link })

/-- A settlement: WAIVE and REVOKE of the DECLINED head's number remove it and the CREDITs that refer to it and apply the one
difference D to each total, floored, saturated and stopped at a cap; WAIVE marks the rental waived, REVOKE ends it; a CLOSING
room whose queue empties is VACANT; any other number is NOT_HELD (R97, R99, R139, R140, R153, R154). -/
def Obligations.ADeclinedChargeIsSettled : Prop :=
  ∀ (s : State) (address : BitVec 10) (hi lo : Byte), s.AddressedBy address →
    (∀ e rest, s.charges.entries = e :: rest → e.number = hi.toNat * 256 + lo.toNat → e.state = .declined →
      ∃ t u, exec (.waive address [hi, lo]) s = .next t ∧ exec (.revoke address [hi, lo]) s = .next u ∧
        Answered t address .none none ∧ Answered u address .none none ∧
        t.line.latched = s.line.latched ∧ u.line.latched = s.line.latched ∧
        t.charges = { s.charges with entries := rest.filter (fun x => x.refersTo ≠ some e.number) } ∧ u.charges = t.charges ∧
        (∀ spend billed credits,
          credits = ((rest.filter (fun x => x.refersTo = some e.number)).map (·.amount)).sum →
          spend = min (s.room.spend + credits - e.amount) 9999999 →
          billed = (if s.room.terms.cap = 0 ∨ credits ≤ e.amount then min (s.room.billed + credits - e.amount) 9999999
            else min (min (s.room.billed + credits - e.amount) 9999999) s.room.terms.cap) →
          s.room.Ok →
          t.room = { s.room with
            spend := spend, billed := billed
            occupancy := if s.room.occupancy = .closing ∧ t.charges.entries = [] then .vacant
              else s.room.occupancy } ∧
          u.room = { t.room with previewUsed := u.room.previewUsed }) ∧
        t.rentals = s.rentals.map (fun r => if r.charge = some e.number then { r with waived := true } else r) ∧
        t.lanes = s.lanes ∧
        (s.SeatsOk → (s.rentals.filterMap (·.charge)).Nodup →
          u.rentals = s.rentals.filter (fun r => r.charge ≠ some e.number)) ∧
        OnlyViewing s { t with charges := s.charges, room := s.room, line := s.line } ∧
        OnlyViewing s { u with charges := s.charges, room := s.room, line := s.line } ∧
        ((∀ x ∈ rest, x.state ≠ .declined) → Shows t .billing (.billing none t.charges.entries.length))) ∧
    ((∀ e ∈ s.charges.entries.head?, e.number ≠ hi.toNat * 256 + lo.toNat ∨ e.state ≠ .declined) →
      ∀ c ∈ [Instr.waive address [hi, lo], .revoke address [hi, lo]],
        ∃ t, exec c s = .next t ∧ Answered t address .notHeld none ∧ HeardLink s t ∧ t.line.latched = s.line.latched ∧
          t = { s with line := t.line, link := t.link })

/-! ### The host's requests -/

/-- The reading requests answer with what the rules list and change nothing (R15, R63, R128, R161, R187, R188). -/
def Obligations.ReadingChangesNothing : Prop :=
  ∀ (s : State) (tag a hi lo : Byte) (n : Screen), s.Ready → a.toNat = n.val →
    (∃ t, exec (.identify tag []) s = .next t ∧
      OnlyReplied s t ⟨0x01, tag, []⟩ .ok (.identify ⟨s.lastStart, s.clock.run⟩)) ∧
    (∃ t, exec (.status tag []) s = .next t ∧ OnlyReplied s t ⟨0x02, tag, []⟩ .ok (.status s.statusReport)) ∧
    (∃ t, exec (.screenReport tag [a]) s = .next t ∧
      OnlyReplied s t ⟨0x05, tag, [a]⟩ .ok (.screen (s.screenReport n))) ∧
    (∃ t, exec (.rentalsRead tag []) s = .next t ∧ OnlyReplied s t ⟨0x09, tag, []⟩ .ok (.rentals s.rentals)) ∧
    (∃ t, exec (.chargesRead tag []) s = .next t ∧
      OnlyReplied s t ⟨0x0A, tag, []⟩ .ok (.charges s.charges.entries
        (s.charges.entries.head?.any (fun e => e.state == .declined)) s.charges.next)) ∧
    (∀ e ∈ s.lineup.active.find? (fun e => e.service == hi.toNat * 256 + lo.toNat), hi.toNat < 16 →
      ∃ t, exec (.lineupRead tag [hi, lo]) s = .next t ∧
        OnlyReplied s t ⟨0x06, tag, [hi, lo]⟩ .ok (.lineup s.lineup.generation (some e)
          (match e.terms with
            | .film code _ => some (s.prices.get code)
            | .event code _ _ _ => some (s.prices.get code)
            | _ => none))) ∧
    ((∀ e ∈ s.lineup.active, e.service ≠ if hi.toNat < 16 then hi.toNat * 256 + lo.toNat else 0) →
      ∃ t, exec (.lineupRead tag [hi, lo]) s = .next t ∧
        OnlyReplied s t ⟨0x06, tag, [hi, lo]⟩ .unknownService (.lineup s.lineup.generation none none))

/-- A TUNE that is taken: the screen's unlock and preview have ended, so that a preview end it then has is that of a new preview;
the lane holds the service, its line-up rating and a clear key-miss flag, and the reply is the screen report after admission.
An UNTUNE leaves the lane as at a start but for its shutdown flag. Other screens keep their settings and unlocks. A seat held
before either is released, and the oldest waiter whose screen nothing bars takes it, OPEN, with its LANE notice (R45, R46,
R55, R63, R120). -/
def Obligations.ALaneIsTunedAndUntuned : Prop :=
  ∀ (s : State) (tag a : Byte) (n : Screen) (service : Nat), s.Ready → a.toNat = n.val → 1 ≤ service → service ≤ 4095 →
    (∃ t, exec (.tune tag (a :: beBytes 2 service)) s = .next t ∧
      Replied s t ⟨0x03, tag, a :: beBytes 2 service⟩ .ok (.screen (t.screenReport n)) ∧ LinkFrame s t ∧
      (t.lane n).settings = (some service, false, quadOf s.lineup.active service, (s.lane n).shutdown) ∧
      (∀ stop ∈ (t.lane n).previewEnd, (s.SeatsOk → service ∉ s.room.previewUsed) ∧
        ∃ e ∈ s.entry service, ∃ k ∈ e.terms.previewSeconds, 0 < k ∧ stop = min (s.clock.run + k) 4294967295) ∧
      t.unlockOf n = none ∧ t.lock = { s.lock with unlocks := t.lock.unlocks } ∧
      (∀ m : Screen, m ≠ n → (t.lane m).settings = (s.lane m).settings ∧ t.unlockOf m = s.unlockOf m) ∧
      t.rentals.map Rental.unseated = s.rentals.map Rental.unseated ∧
      OnlyViewing s { t with lock := s.lock, link := { t.link with tx := s.link.tx } }) ∧
    (∃ t, exec (.untune tag [a]) s = .next t ∧
      Replied s t ⟨0x04, tag, [a]⟩ .ok (.screen (t.screenReport n)) ∧ LinkFrame s t ∧
      t.lane n = ⟨none, .off, false, ⟨15, 15, 15, 15⟩, (s.lane n).shutdown, none, .none⟩ ∧
      t.unlockOf n = none ∧ t.lock = { s.lock with unlocks := t.lock.unlocks } ∧
      (∀ m : Screen, m ≠ n → (t.lane m).settings = (s.lane m).settings ∧ t.unlockOf m = s.unlockOf m) ∧
      t.rentals.map Rental.unseated = s.rentals.map Rental.unseated ∧
      OnlyViewing s { t with lock := s.lock, link := { t.link with tx := s.link.tx } }) ∧
    (∀ r ∈ s.rentals, s.SeatsOk → n ∈ r.seats → r.service ≠ service →
      ∀ c ∈ [Instr.untune tag [a], .tune tag (a :: beBytes 2 service)], ∃ t x, exec c s = .next t ∧
        x ∈ t.rentals ∧ x.index = r.index ∧
        (r.waiting = [] → (∀ m : Screen, m ∈ x.seats ↔ m ∈ r.seats ∧ m ≠ n) ∧ x.waiting = []) ∧
        (∀ w rest, r.waiting = w :: rest → (s.lane w).shutdown = false → s.room.occupancy = .occupied →
          (ratingCompare (s.lane w).rating (s.ceiling w)).any = false →
          ∀ e ∈ s.entry r.service, e.adult = false → e.terms.code = 2 →
            (∀ m : Screen, m ∈ x.seats ↔ (m ∈ r.seats ∧ m ≠ n) ∨ m = w) ∧ x.waiting = rest ∧
            (t.lane w).state = .opened ∧ (t.lane w).standing = .holding ∧
            (s.link.modes.lane = .every → Shows t (.lane w) (.lane (t.laneView w)))))

/-- Admission by its ordered checks, as a TUNE of a lane without a standing meets them: SHUTDOWN, UNKNOWN_SERVICE, VACANT,
ADULT_BARRED, LOCKED, then entitlement by kind, with a seat granted, a place in the waiting list, or a preview begun and the
service added to the preview-used list (R47 to R50, R70, R71, R105). -/
def Obligations.ATuneIsAdmittedByTheOrderedChecks : Prop :=
  ∀ (s : State) (tag a : Byte) (n : Screen) (service : Nat), s.Ready → a.toNat = n.val → 1 ≤ service → service ≤ 4095 →
    (s.lane n).standing = .none → (s.rentals.map (·.service)).Nodup →
    (∀ r ∈ s.rentals, n ∉ r.seats ∧ n ∉ r.waiting) →
    ∃ t, exec (.tune tag (a :: beBytes 2 service)) s = .next t ∧
      (if (s.lane n).shutdown = true then (t.lane n).state = .blank .shutdown
      else match s.lineup.active.find? (fun e => e.service == service) with
      | none => (t.lane n).state = .blank .unknownService
      | some e =>
        if s.room.occupancy ≠ .occupied ∧ e.terms.code ≠ 0 then (t.lane n).state = .blank .vacant
        else if e.adult = true ∧ s.room.terms.adult = false then (t.lane n).state = .blank .adultBarred
        else if (s.ceiling n).age < e.rating.age ∨ (s.ceiling n).violence < e.rating.violence ∨
            (s.ceiling n).language < e.rating.language ∨ (s.ceiling n).sexual < e.rating.sexual ∨
            (e.adult = true ∧ s.lock.pin.isSome = true) then (t.lane n).state = .blank .locked
        else match e.terms with
        | .free => (t.lane n).state = .opened
        | .package k => (t.lane n).state = if s.room.terms.packages.getLsbD k then .opened else .blank .notEntitled
        | _ =>
          if (∃ w ∈ e.terms.window, s.clock.isSet = false ∨ s.clock.count < w.1 ∨ w.2 ≤ s.clock.count) then
            (t.lane n).state = .blank .offAir
          else match s.rentals.find? (fun r => r.service == service) with
          | some r =>
            if r.seats.length < r.allowance then
              (t.lane n).state = .opened ∧ (t.lane n).standing = .holding ∧
                ∃ x ∈ t.rentals, x.index = r.index ∧ n ∈ x.seats ∧ x.waiting = r.waiting
            else
              (t.lane n).state = .blank .seatWait ∧ (t.lane n).standing = .waiting ∧
                ∃ x ∈ t.rentals, x.index = r.index ∧ x.seats = r.seats ∧ x.waiting = r.waiting ++ [n]
          | none =>
            if (∃ k ∈ e.terms.previewSeconds, 0 < k) ∧ service ∉ s.room.previewUsed then
              (t.lane n).state = .preview ∧ service ∈ t.room.previewUsed ∧
                (t.lane n).previewEnd = e.terms.previewSeconds.map (fun k => min (s.clock.run + k) 4294967295)
            else (t.lane n).state = .blank .purchaseNeeded) ∧
      ((t.lane n).state ≠ .preview → (t.lane n).previewEnd = none) ∧
      ∀ m : Screen, m ≠ n → t.lane m = s.lane m

/-- UNLOCK, RELOCK and SET_CEILINGS: with the PIN condition met an UNLOCK grants the screen its tuned service for the unlock hold
and lifts the lock, and SET_CEILINGS stores the quad, each place held to 15; RELOCK needs no PIN and ends the unlock. A right
PIN sets the failure count to 0; the replies are the screen report after the admission (R74, R76, R81, R83, R85). -/
def Obligations.ScreensAreUnlockedRelockedAndLimited : Prop :=
  ∀ (s : State) (tag a v l x y : Byte) (n : Screen) (pin : List Byte) (service : Nat), s.Ready → a.toNat = n.val →
    (pin = [] ∨ pin.length = 2) →
    (s.PinMet (carriedPin pin 0) → (s.lane n).tuned = some service →
      ∃ t, exec (.unlock tag (a :: pin)) s = .next t ∧
        Replied s t ⟨0x0B, tag, a :: pin⟩ .ok (.screen (t.screenReport n)) ∧ LinkFrame s t ∧
        t.unlockOf n = some ⟨service, min (s.clock.run + s.room.terms.unlockHold) 4294967295⟩ ∧
        (t.lane n).state ≠ .blank .locked ∧ (∀ m : Screen, m ≠ n → t.unlockOf m = s.unlockOf m) ∧
        (∀ m : Screen, (t.lane m).settings = (s.lane m).settings) ∧
        t.lock = { s.lock with failures := s.failuresMet, unlocks := t.lock.unlocks } ∧
        OnlyViewing s { t with lock := s.lock, link := { t.link with tx := s.link.tx } }) ∧
    (∃ t, exec (.relock tag [a]) s = .next t ∧
      Replied s t ⟨0x0C, tag, [a]⟩ .ok (.screen (t.screenReport n)) ∧ LinkFrame s t ∧ t.unlockOf n = none ∧
      (∀ m : Screen, m ≠ n → t.unlockOf m = s.unlockOf m) ∧ (∀ m : Screen, (t.lane m).settings = (s.lane m).settings) ∧
      t.lock = { s.lock with unlocks := t.lock.unlocks } ∧
      (s.unlockOf n = none → t = { s with link := { s.link with tx := t.link.tx } }) ∧
      OnlyViewing s { t with lock := s.lock, link := { t.link with tx := s.link.tx } }) ∧
    (s.PinMet (carriedPin pin 0) →
      ∃ t, exec (.setCeilings tag (a :: v :: l :: x :: y :: pin)) s = .next t ∧
        Replied s t ⟨0x0D, tag, a :: v :: l :: x :: y :: pin⟩ .ok (.screen (t.screenReport n)) ∧ LinkFrame s t ∧
        t.ceiling n = ⟨min v.toNat 15, min l.toNat 15, min x.toNat 15, min y.toNat 15⟩ ∧
        (∀ m : Screen, m ≠ n → t.ceiling m = s.ceiling m) ∧ (∀ m : Screen, (t.lane m).settings = (s.lane m).settings) ∧
        t.lock = { s.lock with failures := s.failuresMet, ceilings := t.lock.ceilings } ∧
        OnlyViewing s { t with lock := s.lock, link := { t.link with tx := s.link.tx } })

/-- The room PIN changes by PIN_CLEAR, and by SET_PIN with the PIN condition met by the old PIN: the count is 0 and no lockout
stands, the unlocks and ceilings are kept, the lanes keep their settings, and the PIN record is reported (R76 to R78, R86, R199). -/
def Obligations.ThePinIsChanged : Prop :=
  ∀ (s : State) (address : BitVec 10) (tag hi lo : Byte) (old : List Byte),
    (s.AddressedBy address →
      ∃ t, exec (.pinClear address []) s = .next t ∧ Answered t address .none none ∧ t.line.latched = s.line.latched ∧
        t.lock = { s.lock with pin := none, failures := 0, lockout := false, lockoutEnd := none } ∧
        (∀ n : Screen, (t.lane n).settings = (s.lane n).settings) ∧
        OnlyViewing s { t with lock := s.lock, line := s.line } ∧
        (s.link.modes.pin = .every → Shows t .pin (.pin ⟨false, 0, false, none⟩))) ∧
    (s.Ready → (old = [] ∨ old.length = 2) → s.PinMet (carriedPin old 0) →
      ∃ t, exec (.setPin tag (hi :: lo :: old)) s = .next t ∧
        Replied s t ⟨0x0E, tag, hi :: lo :: old⟩ .ok .none ∧ LinkFrame s t ∧
        t.lock = { s.lock with
          pin := if hi.toNat * 256 + lo.toNat = 65535 then none else some (min (hi.toNat * 256 + lo.toNat) 9999)
          failures := 0, lockout := false, lockoutEnd := none } ∧
        (∀ n : Screen, (t.lane n).settings = (s.lane n).settings) ∧
        OnlyViewing s { t with lock := s.lock, link := { t.link with tx := s.link.tx } } ∧
        (s.link.modes.pin = .every → Shows t .pin (.pin ⟨t.lock.pin.isSome, 0, false, none⟩)))

/-- A PIN attempt that fails: during a lockout it is refused with PIN_LOCKED and nothing changes; a wrong PIN counts, and the
third begins a lockout of 900 run seconds, a fault; a missing PIN makes no attempt. Judged alike by UNLOCK, SET_CEILINGS and
SET_PIN (R74, R76, R78). -/
def Obligations.AFailedPinAttemptCounts : Prop :=
  ∀ (s : State) (tag a v l x y hi lo : Byte) (n : Screen) (pin : Nat) (c : Byte × List Byte),
    s.Ready → a.toNat = n.val → (s.lane n).tuned.isSome → s.lock.pin = some pin → s.lock.Ok →
    (c ∈ [((0x0B : Byte), [a, hi, lo]), (0x0D, [a, v, l, x, y, hi, lo]), (0x0E, [x, y, hi, lo])] →
      hi.toNat * 256 + lo.toNat ≠ 65535 →
      ∃ t, exec (if c.1 = 0x0B then .unlock tag c.2 else if c.1 = 0x0D then .setCeilings tag c.2 else .setPin tag c.2) s
          = .next t ∧
        (s.lock.lockout = true → OnlyReplied s t ⟨c.1, tag, c.2⟩ .pinLocked .none) ∧
        (s.lock.lockout = false → min (hi.toNat * 256 + lo.toNat) 9999 ≠ pin →
          Replied s t ⟨c.1, tag, c.2⟩ .pinWrong .none ∧ LinkFrame s t ∧
          t = { s with link := t.link, lock := { s.lock with
            failures := s.lock.failures + 1
            lockout := decide (s.lock.failures = 2)
            lockoutEnd := if s.lock.failures = 2 then some (min (s.clock.run + 900) 4294967295) else none } } ∧
          (s.link.modes.pin = .every ∨ (s.link.modes.pin = .faultOnly ∧ s.lock.failures = 2) →
            Shows t .pin (.pin t.pinView)))) ∧
    (c ∈ [((0x0B : Byte), [a]), (0x0D, [a, v, l, x, y]), (0x0E, [x, y]), (0x0B, [a, 255, 255])] →
      ∃ t, exec (if c.1 = 0x0B then .unlock tag c.2 else if c.1 = 0x0D then .setCeilings tag c.2 else .setPin tag c.2) s
          = .next t ∧ OnlyReplied s t ⟨c.1, tag, c.2⟩ .pinRequired .none)

/-- A PURCHASE of a FILM or EVENT that passes every check makes the rental at the lowest free index, charges it, raises both totals, enters
the history and the preview-used list, grants or renews the unlock of a screen under lock that is tuned to it when the PIN
condition is met, and replies with what it made (R82, R84, R104, R111, R113 to R116, R132 to R138, R144 to R146). That it
renews an unlock still held is log 42. -/
def Obligations.APurchaseIsAccepted : Prop :=
  ∀ (s : State) (tag a : Byte) (n : Screen) (service amount : Nat) (pin : List Byte) (e : LineupEntry) (code : Fin 32)
    (kind : RentalKind) (preview start stop : Nat) (i : Fin 8),
    s.Ready → a.toNat = n.val → service ≤ 4095 → (pin = [] ∨ pin.length = 2) →
    s.room.occupancy = .occupied → s.clock.isSet = true → e ∈ s.entry service →
    (kind = .film ∧ e.terms = .film code preview ∧ stop = min (s.clock.count + (s.prices.get code).hours * 3600) 4294967295) ∨
      (kind = .event ∧ e.terms = .event code preview start stop ∧ start ≤ s.clock.count + 1800 ∧ s.clock.count < stop) →
    (∀ r ∈ s.rentals, r.service ≠ service) → (s.prices.get code).loaded = true →
    (∀ x ∈ s.charges.entries.head?, x.state ≠ .declined) →
    (s.room.history.filter (fun t => decide (s.clock.count < t + s.room.terms.rateWindow))).length < s.room.terms.rateCount →
    s.PinMet (carriedPin pin 0) ∨ (carriedPin pin 0 = none ∧ s.room.terms.pinOnPurchase = false ∧
      s.locked n service (s.saleRating n e) e.adult = false) → (e.adult = true → s.room.terms.adult = true) →
    amount = chargeAmount (s.prices.get code).base s.room.terms.rateFactor s.room.terms.tax s.room.terms.cap s.room.billed →
    (0 < amount → s.charges.entries.length < 8 ∧ s.room.spend + amount ≤ s.room.terms.spendLimit) →
    s.rentals.length < 8 → (∀ r ∈ s.rentals, r.index ≠ i) → (∀ j : Fin 8, j < i → ∃ r ∈ s.rentals, r.index = j) →
    ∃ t, exec (.purchase tag (a :: beBytes 2 service ++ pin)) s = .next t ∧ LinkFrame s t ∧
      t.rentals.map Rental.unseated = s.rentals.map Rental.unseated ++ [
        { index := i, service := service, kind := kind, session := s.room.session,
          charge := if 0 < amount then some s.nextNumber else none, amount := amount,
          capped := decide (amount < grossPrice (s.prices.get code).base s.room.terms.rateFactor s.room.terms.tax),
          waived := false, start := s.clock.count,
          stop := stop,
          allowance := (s.prices.get code).allowance, grace := (s.prices.get code).grace, viewed := 0,
          seats := [], waiting := [] }] ∧
      t.charges = (if 0 < amount then
        ⟨s.charges.entries ++ [⟨.charge, s.nextNumber, s.room.session, service, amount, s.room.terms.tax, s.clock.count,
          .waiting⟩], if 65535 ≤ s.nextNumber then 1 else s.nextNumber + 1⟩ else s.charges) ∧
      t.room = { s.room with
        spend := t.room.spend, billed := t.room.billed
        history := s.room.history.drop (s.room.history.length - 7) ++ [s.clock.count], previewUsed := t.room.previewUsed } ∧
      (s.room.Ok → t.room.spend = min (s.room.spend + amount) 9999999 ∧ t.room.billed = min (s.room.billed + amount) 9999999) ∧
      service ∈ t.room.previewUsed ∧
      Replied s t ⟨0x07, tag, a :: beBytes 2 service ++ pin⟩ .ok (.purchase i amount
        (decide (amount < grossPrice (s.prices.get code).base s.room.terms.rateFactor s.room.terms.tax))
        (if 0 < amount then some s.nextNumber else none)
        stop) ∧
      t.lock = { s.lock with
        failures := if s.PinMet (carriedPin pin 0) then s.failuresMet else s.lock.failures, unlocks := t.lock.unlocks } ∧
      (∀ m : Screen, t.unlockOf m =
        if m = n ∧ s.PinMet (carriedPin pin 0) ∧ (s.lane n).tuned = some service ∧
            ((ratingCompare (s.lane n).rating (s.ceiling n)).any = true ∨ (e.adult = true ∧ s.lock.pin.isSome = true)) then
          some ⟨service, min (s.clock.run + s.room.terms.unlockHold) 4294967295⟩
        else s.unlockOf m) ∧
      (∀ m : Screen, (t.lane m).settings = (s.lane m).settings) ∧ t.clock = s.clock ∧ t.lineup = s.lineup ∧
      t.prices = s.prices ∧ t.line = s.line

/-- The result of a PURCHASE is that of the first of its checks that fails, ALREADY where the rental is held, and OK where none
fails; that of a CANCEL_RENTAL likewise. A refused one changes nothing but the PIN record, by its attempt; ALREADY, a refusal
before the PIN is judged and one for want of a PIN or for a lockout change nothing at all, and only ALREADY carries a body
(R74, R76, R104, R113, R114, R117, R125, R126, R156, R186). -/
def Obligations.ARefusalChangesOnlyThePinRecord : Prop :=
  (∀ (s t : State) (tag : Byte) (body : List Byte) (k : MlKind) (result : Result) (reply : ReplyBody),
     s.Ready → k = .purchase ∨ k = .cancelRental → exec (k.request tag body) s = .next t →
     t.link.tx = .sending ⟨k.code, tag, result, reply⟩ → result ≠ .ok →
     t = { s with
       link := t.link
       lock := { s.lock with failures := t.lock.failures, lockout := t.lock.lockout, lockoutEnd := t.lock.lockoutEnd } } ∧
     LinkFrame s t ∧ (result ≠ .already → reply = .none) ∧
     (result ≠ .pinWrong → t.lock.lockout = s.lock.lockout ∧ t.lock.lockoutEnd = s.lock.lockoutEnd ∧
       (s.lock.pin = none → t.lock = s.lock)) ∧
     (result ∈ [.already, .badLength, .badScreen, .notOccupied, .clockUnset, .unknownService, .notForSale, .outsideWindow,
         .priceUnknown, .rateLimit, .noRental, .pinRequired, .pinLocked] ∨ (k = .purchase ∧ result = .billingHeld) →
       OnlyReplied s t ⟨k.code, tag, body⟩ result reply)) ∧
  (∀ (s : State) (tag a : Byte) (n : Screen) (service : Nat) (pin : List Byte), s.Ready → a.toNat = n.val →
     service ≤ 4095 → (pin = [] ∨ pin.length = 2) →
     ∃ t result reply, exec (.purchase tag (a :: beBytes 2 service ++ pin)) s = .next t ∧
       t.link.tx = .sending ⟨0x07, tag, result, reply⟩ ∧
       if s.room.occupancy ≠ .occupied then result = .notOccupied
       else if s.clock.isSet = false then result = .clockUnset
       else match s.lineup.active.find? (fun e => e.service == service) with
       | none => result = .unknownService
       | some e =>
         if e.terms.code = 0 ∨ e.terms.code = 1 then result = .notForSale
         else if ∃ w ∈ e.terms.window, s.clock.count + 1800 < w.1 ∨ w.2 ≤ s.clock.count then result = .outsideWindow
         else if ∃ r ∈ s.rentals, r.service = service then result = .already
         else if (s.priceNamed e).loaded = false then result = .priceUnknown
         else if ∃ x ∈ s.charges.entries.head?, x.state = .declined then result = .billingHeld
         else if s.room.terms.rateCount ≤
             (s.room.history.filter (fun x => decide (s.clock.count < x + s.room.terms.rateWindow))).length then
           result = .rateLimit
         else if s.lock.pin.isSome = true ∧ (carriedPin pin 0).isSome = true ∧ s.lock.lockout = true then
           result = .pinLocked
         else if s.lock.pin.isSome = true ∧ (carriedPin pin 0).isSome = true ∧ carriedPin pin 0 ≠ s.lock.pin then
           result = .pinWrong
         else if s.lock.pin.isSome = true ∧ carriedPin pin 0 = none ∧ s.room.terms.pinOnPurchase = true then
           result = .pinRequired
         else if e.adult = true ∧ s.room.terms.adult = false then result = .adultBarred
         else if ((ratingCompare (if (s.lane n).tuned = some service then (s.lane n).rating else e.rating)
               (s.ceiling n)).any = true ∨ (e.adult = true ∧ s.lock.pin.isSome = true)) ∧
             (∀ u ∈ s.unlockOf n, u.service ≠ service) ∧ s.lock.pin.isSome = true ∧ carriedPin pin 0 = none then
           result = .contentLocked
         else
           (∀ amount, amount = chargeAmount (s.priceNamed e).base s.room.terms.rateFactor s.room.terms.tax
               s.room.terms.cap s.room.billed →
             result = if 0 < amount ∧ 8 ≤ s.charges.entries.length then .creditFull
               else if 0 < amount ∧ s.room.terms.spendLimit < s.room.spend + amount then .spendLimit
               else if 8 ≤ s.rentals.length then .rentalsFull
               else .ok)) ∧
  (∀ (s : State) (tag index : Byte) (pin : List Byte), s.Ready → (pin = [] ∨ pin.length = 2) →
     (s.charges.entries.map (·.number)).Nodup →
     ∃ t result reply, exec (.cancelRental tag (index :: pin)) s = .next t ∧
       t.link.tx = .sending ⟨0x08, tag, result, reply⟩ ∧
       match s.rentals.find? (fun r => r.index.val == index.toNat && r.session == s.room.session) with
       | none => (s.rentals.map (·.index)).Nodup → result = .noRental
       | some r => (s.rentals.map (·.index)).Nodup →
         if s.lock.pin.isSome = true ∧ (carriedPin pin 0).isSome = true ∧ s.lock.lockout = true then result = .pinLocked
         else if s.lock.pin.isSome = true ∧ (carriedPin pin 0).isSome = true ∧ carriedPin pin 0 ≠ s.lock.pin then
           result = .pinWrong
         else if s.lock.pin.isSome = true ∧ carriedPin pin 0 = none ∧ s.room.terms.pinOnPurchase = true then
           result = .pinRequired
         else if r.grace ≤ r.viewed / 60 then result = .cancelTooLate
         else if ∃ x ∈ s.charges.entries, r.charge = some x.number ∧ x.state = .declined then result = .billingHeld
         else if r.charge.isSome = true ∧ r.waived = false ∧
             (∀ x ∈ s.charges.entries, r.charge = some x.number → x.state ≠ .waiting) ∧
             12 ≤ s.charges.entries.length then result = .queueFull
         else result = .ok)

/-- The charge queue never holds more than 12 entries, and a purchase with a non-zero amount is never accepted while it holds 8 or
more; a refused purchase or cancel leaves it as it was, a purchase of amount 0 adds nothing, and only a cancel that makes a
CREDIT adds an entry, to at most 11 (R147). -/
def Obligations.TheChargeQueueNeverOverfills : Prop :=
  KeptByStep (fun s => s.charges.entries.length ≤ 12) ∧
  ∀ (s t : State) (tag : Byte) (body : List Byte) (result : Result) (reply : ReplyBody), s.Ready →
    (exec (.purchase tag body) s = .next t → t.link.tx = .sending ⟨0x07, tag, result, reply⟩ →
      (result ≠ .ok → t.charges = s.charges) ∧
      (result = .ok → ∀ i amount capped charge stop, reply = .purchase i amount capped charge stop →
        (0 < amount → s.charges.entries.length < 8 ∧ t.charges.entries.length = s.charges.entries.length + 1) ∧
        (amount = 0 → t.charges = s.charges))) ∧
    (exec (.cancelRental tag body) s = .next t → t.link.tx = .sending ⟨0x08, tag, result, reply⟩ →
      (result ≠ .ok → t.charges = s.charges) ∧
      (result = .ok → ∀ service amount credit, reply = .cancel service amount credit →
        (credit.isSome = true → s.charges.entries.length < 12 ∧
          t.charges.entries.length = s.charges.entries.length + 1) ∧
        (credit = none → t.charges.entries.length ≤ s.charges.entries.length)))

/-- A CANCEL_RENTAL within the grace minutes ends the rental; a WAITING charge is withdrawn, an OFFERED or confirmed one answered
by a CREDIT, and both totals fall by the amount, each floored at 0; without a charge, or with a waived one, the money stands
(R125, R126, R139). -/
def Obligations.ACancelEndsTheRental : Prop :=
  ∀ (s : State) (tag : Byte) (r : Rental) (pin : List Byte), s.Ready → s.SeatsOk → r ∈ s.rentals → r.session = s.room.session →
    (pin = [] ∨ pin.length = 2) →
    s.PinMet (carriedPin pin 0) ∨ (carriedPin pin 0 = none ∧ s.room.terms.pinOnPurchase = false) → r.viewed / 60 < r.grace →
    (∀ e ∈ s.charges.entries, r.charge = some e.number → e.state ≠ .declined) →
    (s.charges.entries.map (·.number)).Nodup → s.charges.entries.length < 12 →
    ∃ t credit, exec (.cancelRental tag (BitVec.ofNat 8 r.index.val :: pin)) s = .next t ∧ LinkFrame s t ∧
      t.rentals = s.rentals.filter (fun x => x.index ≠ r.index) ∧
      (r.charge = none ∨ r.waived = true → t.charges = s.charges ∧ t.room.spend = s.room.spend ∧
        t.room.billed = s.room.billed ∧ credit = none) ∧
      (r.waived = false → ∀ number ∈ r.charge, t.room.spend = s.room.spend - r.amount ∧
        t.room.billed = s.room.billed - r.amount ∧
        ((∃ e ∈ s.charges.entries, e.number = number ∧ e.state = .waiting) → credit = none ∧
          t.charges = { s.charges with entries := s.charges.entries.filter (fun e => e.number ≠ number) }) ∧
        ((∀ e ∈ s.charges.entries, e.number = number → e.state = .offered) → credit = some s.nextNumber ∧
          t.charges.entries = s.charges.entries ++ [⟨.credit number, s.nextNumber, s.room.session, r.service, r.amount,
            s.room.terms.tax, s.clock.count, .waiting⟩])) ∧
      Replied s t ⟨0x08, tag, BitVec.ofNat 8 r.index.val :: pin⟩ .ok
        (.cancel r.service (if r.charge = none ∨ r.waived = true then 0 else r.amount) credit) ∧
      t.room.history = s.room.history ∧
      (∀ n : Screen, (t.lane n).settings = (s.lane n).settings ∧
        ((s.lane n).tuned = some r.service → (t.lane n).standing = .none) ∧
        ((s.lane n).tuned ≠ some r.service → t.lane n = s.lane n)) ∧ t.lock = { s.lock with
        failures := if s.PinMet (carriedPin pin 0) then s.failuresMet else s.lock.failures } ∧ t.clock = s.clock

/-- NOTICES_READ lists and empties the queue; NOTICE_MODES stores the changeable modes, arms every pair and drops the notices of
kinds now OFF; SET_ROOM_ADDRESS stores an address in VACANT alone; RESTART is answered and changes nothing yet; MLATN follows
the queue (R106, R192 to R195, R199). -/
def Obligations.TheInterfaceServesTheHost : Prop :=
  ∀ (s : State) (tag hi lo : Byte) (modes : List Byte) (i : Fin 12), s.Ready → modes.length = 9 →
    (∃ t, exec (.noticesRead tag []) s = .next t ∧ Replied s t ⟨0x0F, tag, []⟩ .ok (.notices s.link.notices) ∧
      t = { s with link := { s.link with tx := t.link.tx, notices := [] } } ∧ t.mlatnLow = false) ∧
    (∃ t, exec (.noticeModes tag modes) s = .next t ∧
      Replied s t ⟨0x10, tag, modes⟩ .ok (.modes (modesOf modes s.link.modes)) ∧
      t = { s with link := { s.link with
        tx := t.link.tx, modes := modesOf modes s.link.modes, armed := t.link.armed
        notices := s.link.notices.filter (fun x => (modesOf modes s.link.modes).of x.pair ≠ .off) } } ∧
      t.link.armed.get i = true ∧ (t.mlatnLow = true ↔ t.link.notices ≠ [])) ∧
    (s.room.occupancy = .vacant → ∃ t, exec (.setRoomAddress tag [hi, lo]) s = .next t ∧ LinkFrame s t ∧
      Replied s t ⟨0x11, tag, [hi, lo]⟩ .ok (.address t.room.address) ∧
      t.room.address = (if hi.toNat * 256 + lo.toNat ≤ 1022 then hi.toNat * 256 + lo.toNat else 0) ∧
      t = { s with room := { s.room with address := t.room.address }, link := t.link } ∧
      (t.room.address ≠ s.room.address → Shows t .room (.room t.roomView)) ∧
      (t.room.address = s.room.address → t.link.notices = s.link.notices)) ∧
    (s.room.occupancy ≠ .vacant → ∃ t, exec (.setRoomAddress tag [hi, lo]) s = .next t ∧
      OnlyReplied s t ⟨0x11, tag, [hi, lo]⟩ .notVacant .none) ∧
    (∃ t, exec (.restart tag []) s = .next t ∧ OnlyReplied s t ⟨0x12, tag, []⟩ .ok .none)

/-! ### Shared computations -/

/-- The amount is at most 170,391, never more than what remains of a cap, and CAPPED exactly when the cap took something off the
gross; the number the next entry takes is a charge number that no entry, no reference and no rental holds (R132 to R135, R145). -/
def Obligations.AmountsAndNumbersStayInBounds : Prop :=
  (∀ (base factor tax cap billed : Nat), base ≤ 65535 → factor ≤ 2000 → tax ≤ 3000 →
     chargeAmount base factor tax cap billed ≤ 170391 ∧
     (cap ≠ 0 → billed ≤ cap → billed + chargeAmount base factor tax cap billed ≤ cap) ∧
     (cappedMark base factor tax cap billed = true ↔ cap ≠ 0 ∧ cap - billed < grossPrice base factor tax) ∧
     2 * 1000 * netPrice base factor ≤ 2 * base * factor + 1000 ∧ 2 * base * factor + 1000 < 2 * 1000 * netPrice base factor + 2000) ∧
  (∀ (s : State), s.charges.entries.length ≤ 12 → s.rentals.length ≤ 8 → 1 ≤ s.charges.next → s.charges.next ≤ 65535 →
     1 ≤ s.nextNumber ∧ s.nextNumber ≤ 65535 ∧
     (∀ e ∈ s.charges.entries, e.number ≠ s.nextNumber ∧ e.refersTo ≠ some s.nextNumber) ∧
     ∀ r ∈ s.rentals, r.charge ≠ some s.nextNumber)

/-- A raised notice coalesces with a queued one of its pair, in its place and with one more in its raise count up to 255; else it
is filed at the end by its kind's mode, and filing under FIRST disarms the pair; nothing else changes (R189, R191). -/
def Obligations.ANoticeIsFiledOrCoalesced : Prop :=
  ∀ (s t : State) (p : NoticePair) (snapshot : Snapshot) (fault : Bool), t = s.raise p snapshot fault →
    OnlyNotices s t ∧ t = { s with link := t.link } ∧
    ((∃ n ∈ s.link.notices, n.pair = p) → t.link.notices = s.link.notices.map (fun n =>
      if n.pair = p then ⟨p, snapshot, min (n.raises + 1) 255⟩ else n)) ∧
    ((∀ n ∈ s.link.notices, n.pair ≠ p) →
      (s.link.modes.of p = .every ∨ (s.link.modes.of p = .first ∧ s.link.armed.get p.index = true) ∨
          (s.link.modes.of p = .faultOnly ∧ fault = true) → t.link.notices = s.link.notices ++ [⟨p, snapshot, 1⟩]) ∧
      (s.link.modes.of p = .off ∨ (s.link.modes.of p = .first ∧ s.link.armed.get p.index = false) ∨
          (s.link.modes.of p = .faultOnly ∧ fault = false) → t.link.notices = s.link.notices) ∧
      (s.link.modes.of p = .first → t.link.armed.get p.index = false)) ∧
    (s.link.modes.of p ≠ .first → t.link.armed = s.link.armed) ∧
    (∀ q : NoticePair, q ≠ p → t.link.armed.get q.index = s.link.armed.get q.index)

/-- The command bodies of 11.2 decode to what they were laid out from, every field at every value its range admits: an entry of
each kind, a price, a key load, the terms of a stay and a check-in (R1, R17, R21, R92, R98, R198). -/
def Obligations.BodiesDecodeToWhatTheyEncode : Prop :=
  (∀ e : LineupEntry, e.Ok → lineupEntryOf e.layout = e ∧ e.layout.length = 18) ∧
  (∀ (code : Fin 32) (p : PriceEntry), p.Ok → p.loaded = true →
    priceCodeOf (field (p.layout code.val) 0 1) = code ∧ priceEntryOf (p.layout code.val) = p ∧
      (p.layout code.val).length = 6) ∧
  (∀ k : KeyLoad, k.validUntil ≤ maxCount → keyLoadOf k.layout = k ∧ k.layout.length = 14) ∧
  (∀ t : StayTerms, t.Ok → t.cap ≤ 999999 → stayTermsOf t.layout = t ∧ t.layout.length = 26) ∧
  (∀ c : CheckIn, c.session ≤ 65535 → c.terms.Ok → c.terms.cap ≤ 999999 → (∀ p ∈ c.pin, p ≤ 9999) → c.ceilings.Ok →
    checkInOf c.layout = c ∧ c.layout.length = 34)
end

