-- ==== Sys2Proof/Laws/State.lean ====
section
/-! SUPPORT. What each update of the state leaves: one lemma for each field it does not write, true by computing, and what
the accessors read after it. No later proof needs to unfold a record update. -/

namespace Sys2Proof.Machine

variable (s : State)

/-! ### Vectors -/

theorem get_set_self {α : Type} {k : Nat} (v : Vector α k) (n : Fin k) (x : α) : (v.set n.val x n.isLt).get n = x := by
  rw [Vector.get_eq_getElem]
  exact Vector.getElem_set_self n.isLt

theorem get_set_ne {α : Type} {k : Nat} (v : Vector α k) {n m : Fin k} (h : m ≠ n) (x : α) :
    (v.set n.val x n.isLt).get m = v.get m := by
  rw [Vector.get_eq_getElem, Vector.get_eq_getElem]
  exact Vector.getElem_set_ne n.isLt m.isLt (fun e => h (Fin.ext e.symm))

theorem get_replicate {α : Type} {k : Nat} (n : Fin k) (x : α) : (Vector.replicate k x).get n = x := by
  rw [Vector.get_eq_getElem]
  exact Vector.getElem_replicate n.isLt

/-! ### setLane -/

@[simp] theorem State.setLane_powered (n : Screen) (l : Lane) : (s.setLane n l).powered = s.powered := rfl
@[simp] theorem State.setLane_lastStart (n : Screen) (l : Lane) : (s.setLane n l).lastStart = s.lastStart := rfl
@[simp] theorem State.setLane_clock (n : Screen) (l : Lane) : (s.setLane n l).clock = s.clock := rfl
@[simp] theorem State.setLane_lineup (n : Screen) (l : Lane) : (s.setLane n l).lineup = s.lineup := rfl
@[simp] theorem State.setLane_prices (n : Screen) (l : Lane) : (s.setLane n l).prices = s.prices := rfl
@[simp] theorem State.setLane_keys (n : Screen) (l : Lane) : (s.setLane n l).keys = s.keys := rfl
@[simp] theorem State.setLane_outs (n : Screen) (l : Lane) : (s.setLane n l).outs = s.outs := rfl
@[simp] theorem State.setLane_lock (n : Screen) (l : Lane) : (s.setLane n l).lock = s.lock := rfl
@[simp] theorem State.setLane_room (n : Screen) (l : Lane) : (s.setLane n l).room = s.room := rfl
@[simp] theorem State.setLane_rentals (n : Screen) (l : Lane) : (s.setLane n l).rentals = s.rentals := rfl
@[simp] theorem State.setLane_charges (n : Screen) (l : Lane) : (s.setLane n l).charges = s.charges := rfl
@[simp] theorem State.setLane_line (n : Screen) (l : Lane) : (s.setLane n l).line = s.line := rfl
@[simp] theorem State.setLane_link (n : Screen) (l : Lane) : (s.setLane n l).link = s.link := rfl
@[simp] theorem State.setLane_pending (n : Screen) (l : Lane) : (s.setLane n l).pending = s.pending := rfl

/-! ### place -/

@[simp] theorem State.place_powered (n : Screen) (c : Cell) : (s.place n c).powered = s.powered := rfl
@[simp] theorem State.place_lastStart (n : Screen) (c : Cell) : (s.place n c).lastStart = s.lastStart := rfl
@[simp] theorem State.place_clock (n : Screen) (c : Cell) : (s.place n c).clock = s.clock := rfl
@[simp] theorem State.place_lineup (n : Screen) (c : Cell) : (s.place n c).lineup = s.lineup := rfl
@[simp] theorem State.place_prices (n : Screen) (c : Cell) : (s.place n c).prices = s.prices := rfl
@[simp] theorem State.place_keys (n : Screen) (c : Cell) : (s.place n c).keys = s.keys := rfl
@[simp] theorem State.place_lanes (n : Screen) (c : Cell) : (s.place n c).lanes = s.lanes := rfl
@[simp] theorem State.place_lock (n : Screen) (c : Cell) : (s.place n c).lock = s.lock := rfl
@[simp] theorem State.place_room (n : Screen) (c : Cell) : (s.place n c).room = s.room := rfl
@[simp] theorem State.place_rentals (n : Screen) (c : Cell) : (s.place n c).rentals = s.rentals := rfl
@[simp] theorem State.place_charges (n : Screen) (c : Cell) : (s.place n c).charges = s.charges := rfl
@[simp] theorem State.place_line (n : Screen) (c : Cell) : (s.place n c).line = s.line := rfl
@[simp] theorem State.place_link (n : Screen) (c : Cell) : (s.place n c).link = s.link := rfl
@[simp] theorem State.place_pending (n : Screen) (c : Cell) : (s.place n c).pending = s.pending := rfl

/-! ### setUnlock -/

@[simp] theorem State.setUnlock_powered (n : Screen) (u : Option Unlock) : (s.setUnlock n u).powered = s.powered := rfl
@[simp] theorem State.setUnlock_lastStart (n : Screen) (u : Option Unlock) : (s.setUnlock n u).lastStart = s.lastStart := rfl
@[simp] theorem State.setUnlock_clock (n : Screen) (u : Option Unlock) : (s.setUnlock n u).clock = s.clock := rfl
@[simp] theorem State.setUnlock_lineup (n : Screen) (u : Option Unlock) : (s.setUnlock n u).lineup = s.lineup := rfl
@[simp] theorem State.setUnlock_prices (n : Screen) (u : Option Unlock) : (s.setUnlock n u).prices = s.prices := rfl
@[simp] theorem State.setUnlock_keys (n : Screen) (u : Option Unlock) : (s.setUnlock n u).keys = s.keys := rfl
@[simp] theorem State.setUnlock_lanes (n : Screen) (u : Option Unlock) : (s.setUnlock n u).lanes = s.lanes := rfl
@[simp] theorem State.setUnlock_outs (n : Screen) (u : Option Unlock) : (s.setUnlock n u).outs = s.outs := rfl
@[simp] theorem State.setUnlock_room (n : Screen) (u : Option Unlock) : (s.setUnlock n u).room = s.room := rfl
@[simp] theorem State.setUnlock_rentals (n : Screen) (u : Option Unlock) : (s.setUnlock n u).rentals = s.rentals := rfl
@[simp] theorem State.setUnlock_charges (n : Screen) (u : Option Unlock) : (s.setUnlock n u).charges = s.charges := rfl
@[simp] theorem State.setUnlock_line (n : Screen) (u : Option Unlock) : (s.setUnlock n u).line = s.line := rfl
@[simp] theorem State.setUnlock_link (n : Screen) (u : Option Unlock) : (s.setUnlock n u).link = s.link := rfl
@[simp] theorem State.setUnlock_pending (n : Screen) (u : Option Unlock) : (s.setUnlock n u).pending = s.pending := rfl

/-! ### dropUnlocks -/

@[simp] theorem State.dropUnlocks_powered : (s.dropUnlocks).powered = s.powered := rfl
@[simp] theorem State.dropUnlocks_lastStart : (s.dropUnlocks).lastStart = s.lastStart := rfl
@[simp] theorem State.dropUnlocks_clock : (s.dropUnlocks).clock = s.clock := rfl
@[simp] theorem State.dropUnlocks_lineup : (s.dropUnlocks).lineup = s.lineup := rfl
@[simp] theorem State.dropUnlocks_prices : (s.dropUnlocks).prices = s.prices := rfl
@[simp] theorem State.dropUnlocks_keys : (s.dropUnlocks).keys = s.keys := rfl
@[simp] theorem State.dropUnlocks_lanes : (s.dropUnlocks).lanes = s.lanes := rfl
@[simp] theorem State.dropUnlocks_outs : (s.dropUnlocks).outs = s.outs := rfl
@[simp] theorem State.dropUnlocks_room : (s.dropUnlocks).room = s.room := rfl
@[simp] theorem State.dropUnlocks_rentals : (s.dropUnlocks).rentals = s.rentals := rfl
@[simp] theorem State.dropUnlocks_charges : (s.dropUnlocks).charges = s.charges := rfl
@[simp] theorem State.dropUnlocks_line : (s.dropUnlocks).line = s.line := rfl
@[simp] theorem State.dropUnlocks_link : (s.dropUnlocks).link = s.link := rfl
@[simp] theorem State.dropUnlocks_pending : (s.dropUnlocks).pending = s.pending := rfl

/-! ### setCeiling -/

@[simp] theorem State.setCeiling_powered (n : Screen) (q : Rating) : (s.setCeiling n q).powered = s.powered := rfl
@[simp] theorem State.setCeiling_lastStart (n : Screen) (q : Rating) : (s.setCeiling n q).lastStart = s.lastStart := rfl
@[simp] theorem State.setCeiling_clock (n : Screen) (q : Rating) : (s.setCeiling n q).clock = s.clock := rfl
@[simp] theorem State.setCeiling_lineup (n : Screen) (q : Rating) : (s.setCeiling n q).lineup = s.lineup := rfl
@[simp] theorem State.setCeiling_prices (n : Screen) (q : Rating) : (s.setCeiling n q).prices = s.prices := rfl
@[simp] theorem State.setCeiling_keys (n : Screen) (q : Rating) : (s.setCeiling n q).keys = s.keys := rfl
@[simp] theorem State.setCeiling_lanes (n : Screen) (q : Rating) : (s.setCeiling n q).lanes = s.lanes := rfl
@[simp] theorem State.setCeiling_outs (n : Screen) (q : Rating) : (s.setCeiling n q).outs = s.outs := rfl
@[simp] theorem State.setCeiling_room (n : Screen) (q : Rating) : (s.setCeiling n q).room = s.room := rfl
@[simp] theorem State.setCeiling_rentals (n : Screen) (q : Rating) : (s.setCeiling n q).rentals = s.rentals := rfl
@[simp] theorem State.setCeiling_charges (n : Screen) (q : Rating) : (s.setCeiling n q).charges = s.charges := rfl
@[simp] theorem State.setCeiling_line (n : Screen) (q : Rating) : (s.setCeiling n q).line = s.line := rfl
@[simp] theorem State.setCeiling_link (n : Screen) (q : Rating) : (s.setCeiling n q).link = s.link := rfl
@[simp] theorem State.setCeiling_pending (n : Screen) (q : Rating) : (s.setCeiling n q).pending = s.pending := rfl

/-! ### setHalf -/

@[simp] theorem State.setHalf_powered (slot : Fin 16) (p : Parity) (h : KeyHalf) : (s.setHalf slot p h).powered = s.powered := rfl
@[simp] theorem State.setHalf_lastStart (slot : Fin 16) (p : Parity) (h : KeyHalf) : (s.setHalf slot p h).lastStart = s.lastStart := rfl
@[simp] theorem State.setHalf_clock (slot : Fin 16) (p : Parity) (h : KeyHalf) : (s.setHalf slot p h).clock = s.clock := rfl
@[simp] theorem State.setHalf_lineup (slot : Fin 16) (p : Parity) (h : KeyHalf) : (s.setHalf slot p h).lineup = s.lineup := rfl
@[simp] theorem State.setHalf_prices (slot : Fin 16) (p : Parity) (h : KeyHalf) : (s.setHalf slot p h).prices = s.prices := rfl
@[simp] theorem State.setHalf_lanes (slot : Fin 16) (p : Parity) (h : KeyHalf) : (s.setHalf slot p h).lanes = s.lanes := rfl
@[simp] theorem State.setHalf_outs (slot : Fin 16) (p : Parity) (h : KeyHalf) : (s.setHalf slot p h).outs = s.outs := rfl
@[simp] theorem State.setHalf_lock (slot : Fin 16) (p : Parity) (h : KeyHalf) : (s.setHalf slot p h).lock = s.lock := rfl
@[simp] theorem State.setHalf_room (slot : Fin 16) (p : Parity) (h : KeyHalf) : (s.setHalf slot p h).room = s.room := rfl
@[simp] theorem State.setHalf_rentals (slot : Fin 16) (p : Parity) (h : KeyHalf) : (s.setHalf slot p h).rentals = s.rentals := rfl
@[simp] theorem State.setHalf_charges (slot : Fin 16) (p : Parity) (h : KeyHalf) : (s.setHalf slot p h).charges = s.charges := rfl
@[simp] theorem State.setHalf_line (slot : Fin 16) (p : Parity) (h : KeyHalf) : (s.setHalf slot p h).line = s.line := rfl
@[simp] theorem State.setHalf_link (slot : Fin 16) (p : Parity) (h : KeyHalf) : (s.setHalf slot p h).link = s.link := rfl
@[simp] theorem State.setHalf_pending (slot : Fin 16) (p : Parity) (h : KeyHalf) : (s.setHalf slot p h).pending = s.pending := rfl

/-! ### setPrice -/

@[simp] theorem State.setPrice_powered (code : Fin 32) (e : PriceEntry) : (s.setPrice code e).powered = s.powered := rfl
@[simp] theorem State.setPrice_lastStart (code : Fin 32) (e : PriceEntry) : (s.setPrice code e).lastStart = s.lastStart := rfl
@[simp] theorem State.setPrice_clock (code : Fin 32) (e : PriceEntry) : (s.setPrice code e).clock = s.clock := rfl
@[simp] theorem State.setPrice_lineup (code : Fin 32) (e : PriceEntry) : (s.setPrice code e).lineup = s.lineup := rfl
@[simp] theorem State.setPrice_keys (code : Fin 32) (e : PriceEntry) : (s.setPrice code e).keys = s.keys := rfl
@[simp] theorem State.setPrice_lanes (code : Fin 32) (e : PriceEntry) : (s.setPrice code e).lanes = s.lanes := rfl
@[simp] theorem State.setPrice_outs (code : Fin 32) (e : PriceEntry) : (s.setPrice code e).outs = s.outs := rfl
@[simp] theorem State.setPrice_lock (code : Fin 32) (e : PriceEntry) : (s.setPrice code e).lock = s.lock := rfl
@[simp] theorem State.setPrice_room (code : Fin 32) (e : PriceEntry) : (s.setPrice code e).room = s.room := rfl
@[simp] theorem State.setPrice_rentals (code : Fin 32) (e : PriceEntry) : (s.setPrice code e).rentals = s.rentals := rfl
@[simp] theorem State.setPrice_charges (code : Fin 32) (e : PriceEntry) : (s.setPrice code e).charges = s.charges := rfl
@[simp] theorem State.setPrice_line (code : Fin 32) (e : PriceEntry) : (s.setPrice code e).line = s.line := rfl
@[simp] theorem State.setPrice_link (code : Fin 32) (e : PriceEntry) : (s.setPrice code e).link = s.link := rfl
@[simp] theorem State.setPrice_pending (code : Fin 32) (e : PriceEntry) : (s.setPrice code e).pending = s.pending := rfl

/-! ### mapRental -/

@[simp] theorem State.mapRental_powered (service : Nat) (f : Rental → Rental) : (s.mapRental service f).powered = s.powered := rfl
@[simp] theorem State.mapRental_lastStart (service : Nat) (f : Rental → Rental) : (s.mapRental service f).lastStart = s.lastStart := rfl
@[simp] theorem State.mapRental_clock (service : Nat) (f : Rental → Rental) : (s.mapRental service f).clock = s.clock := rfl
@[simp] theorem State.mapRental_lineup (service : Nat) (f : Rental → Rental) : (s.mapRental service f).lineup = s.lineup := rfl
@[simp] theorem State.mapRental_prices (service : Nat) (f : Rental → Rental) : (s.mapRental service f).prices = s.prices := rfl
@[simp] theorem State.mapRental_keys (service : Nat) (f : Rental → Rental) : (s.mapRental service f).keys = s.keys := rfl
@[simp] theorem State.mapRental_lanes (service : Nat) (f : Rental → Rental) : (s.mapRental service f).lanes = s.lanes := rfl
@[simp] theorem State.mapRental_outs (service : Nat) (f : Rental → Rental) : (s.mapRental service f).outs = s.outs := rfl
@[simp] theorem State.mapRental_lock (service : Nat) (f : Rental → Rental) : (s.mapRental service f).lock = s.lock := rfl
@[simp] theorem State.mapRental_room (service : Nat) (f : Rental → Rental) : (s.mapRental service f).room = s.room := rfl
@[simp] theorem State.mapRental_charges (service : Nat) (f : Rental → Rental) : (s.mapRental service f).charges = s.charges := rfl
@[simp] theorem State.mapRental_line (service : Nat) (f : Rental → Rental) : (s.mapRental service f).line = s.line := rfl
@[simp] theorem State.mapRental_link (service : Nat) (f : Rental → Rental) : (s.mapRental service f).link = s.link := rfl
@[simp] theorem State.mapRental_pending (service : Nat) (f : Rental → Rental) : (s.mapRental service f).pending = s.pending := rfl

/-! ### addPreviewUsed -/

@[simp] theorem State.addPreviewUsed_powered (service : Nat) : (s.addPreviewUsed service).powered = s.powered := rfl
@[simp] theorem State.addPreviewUsed_lastStart (service : Nat) : (s.addPreviewUsed service).lastStart = s.lastStart := rfl
@[simp] theorem State.addPreviewUsed_clock (service : Nat) : (s.addPreviewUsed service).clock = s.clock := rfl
@[simp] theorem State.addPreviewUsed_lineup (service : Nat) : (s.addPreviewUsed service).lineup = s.lineup := rfl
@[simp] theorem State.addPreviewUsed_prices (service : Nat) : (s.addPreviewUsed service).prices = s.prices := rfl
@[simp] theorem State.addPreviewUsed_keys (service : Nat) : (s.addPreviewUsed service).keys = s.keys := rfl
@[simp] theorem State.addPreviewUsed_lanes (service : Nat) : (s.addPreviewUsed service).lanes = s.lanes := rfl
@[simp] theorem State.addPreviewUsed_outs (service : Nat) : (s.addPreviewUsed service).outs = s.outs := rfl
@[simp] theorem State.addPreviewUsed_lock (service : Nat) : (s.addPreviewUsed service).lock = s.lock := rfl
@[simp] theorem State.addPreviewUsed_rentals (service : Nat) : (s.addPreviewUsed service).rentals = s.rentals := rfl
@[simp] theorem State.addPreviewUsed_charges (service : Nat) : (s.addPreviewUsed service).charges = s.charges := rfl
@[simp] theorem State.addPreviewUsed_line (service : Nat) : (s.addPreviewUsed service).line = s.line := rfl
@[simp] theorem State.addPreviewUsed_link (service : Nat) : (s.addPreviewUsed service).link = s.link := rfl
@[simp] theorem State.addPreviewUsed_pending (service : Nat) : (s.addPreviewUsed service).pending = s.pending := rfl

/-! ### setEntries -/

@[simp] theorem State.setEntries_powered (entries : List QueueEntry) : (s.setEntries entries).powered = s.powered := rfl
@[simp] theorem State.setEntries_lastStart (entries : List QueueEntry) : (s.setEntries entries).lastStart = s.lastStart := rfl
@[simp] theorem State.setEntries_clock (entries : List QueueEntry) : (s.setEntries entries).clock = s.clock := rfl
@[simp] theorem State.setEntries_lineup (entries : List QueueEntry) : (s.setEntries entries).lineup = s.lineup := rfl
@[simp] theorem State.setEntries_prices (entries : List QueueEntry) : (s.setEntries entries).prices = s.prices := rfl
@[simp] theorem State.setEntries_keys (entries : List QueueEntry) : (s.setEntries entries).keys = s.keys := rfl
@[simp] theorem State.setEntries_lanes (entries : List QueueEntry) : (s.setEntries entries).lanes = s.lanes := rfl
@[simp] theorem State.setEntries_outs (entries : List QueueEntry) : (s.setEntries entries).outs = s.outs := rfl
@[simp] theorem State.setEntries_lock (entries : List QueueEntry) : (s.setEntries entries).lock = s.lock := rfl
@[simp] theorem State.setEntries_room (entries : List QueueEntry) : (s.setEntries entries).room = s.room := rfl
@[simp] theorem State.setEntries_rentals (entries : List QueueEntry) : (s.setEntries entries).rentals = s.rentals := rfl
@[simp] theorem State.setEntries_line (entries : List QueueEntry) : (s.setEntries entries).line = s.line := rfl
@[simp] theorem State.setEntries_link (entries : List QueueEntry) : (s.setEntries entries).link = s.link := rfl
@[simp] theorem State.setEntries_pending (entries : List QueueEntry) : (s.setEntries entries).pending = s.pending := rfl

/-! ### enqueue -/

@[simp] theorem State.enqueue_powered (kind : ChargeKind) (service amount tax : Nat) : (s.enqueue kind service amount tax).powered = s.powered := rfl
@[simp] theorem State.enqueue_lastStart (kind : ChargeKind) (service amount tax : Nat) : (s.enqueue kind service amount tax).lastStart = s.lastStart := rfl
@[simp] theorem State.enqueue_clock (kind : ChargeKind) (service amount tax : Nat) : (s.enqueue kind service amount tax).clock = s.clock := rfl
@[simp] theorem State.enqueue_lineup (kind : ChargeKind) (service amount tax : Nat) : (s.enqueue kind service amount tax).lineup = s.lineup := rfl
@[simp] theorem State.enqueue_prices (kind : ChargeKind) (service amount tax : Nat) : (s.enqueue kind service amount tax).prices = s.prices := rfl
@[simp] theorem State.enqueue_keys (kind : ChargeKind) (service amount tax : Nat) : (s.enqueue kind service amount tax).keys = s.keys := rfl
@[simp] theorem State.enqueue_lanes (kind : ChargeKind) (service amount tax : Nat) : (s.enqueue kind service amount tax).lanes = s.lanes := rfl
@[simp] theorem State.enqueue_outs (kind : ChargeKind) (service amount tax : Nat) : (s.enqueue kind service amount tax).outs = s.outs := rfl
@[simp] theorem State.enqueue_lock (kind : ChargeKind) (service amount tax : Nat) : (s.enqueue kind service amount tax).lock = s.lock := rfl
@[simp] theorem State.enqueue_room (kind : ChargeKind) (service amount tax : Nat) : (s.enqueue kind service amount tax).room = s.room := rfl
@[simp] theorem State.enqueue_rentals (kind : ChargeKind) (service amount tax : Nat) : (s.enqueue kind service amount tax).rentals = s.rentals := rfl
@[simp] theorem State.enqueue_line (kind : ChargeKind) (service amount tax : Nat) : (s.enqueue kind service amount tax).line = s.line := rfl
@[simp] theorem State.enqueue_link (kind : ChargeKind) (service amount tax : Nat) : (s.enqueue kind service amount tax).link = s.link := rfl
@[simp] theorem State.enqueue_pending (kind : ChargeKind) (service amount tax : Nat) : (s.enqueue kind service amount tax).pending = s.pending := rfl

/-! ### latch -/

@[simp] theorem State.latch_powered (f : Latched → Latched) : (s.latch f).powered = s.powered := rfl
@[simp] theorem State.latch_lastStart (f : Latched → Latched) : (s.latch f).lastStart = s.lastStart := rfl
@[simp] theorem State.latch_clock (f : Latched → Latched) : (s.latch f).clock = s.clock := rfl
@[simp] theorem State.latch_lineup (f : Latched → Latched) : (s.latch f).lineup = s.lineup := rfl
@[simp] theorem State.latch_prices (f : Latched → Latched) : (s.latch f).prices = s.prices := rfl
@[simp] theorem State.latch_keys (f : Latched → Latched) : (s.latch f).keys = s.keys := rfl
@[simp] theorem State.latch_lanes (f : Latched → Latched) : (s.latch f).lanes = s.lanes := rfl
@[simp] theorem State.latch_outs (f : Latched → Latched) : (s.latch f).outs = s.outs := rfl
@[simp] theorem State.latch_lock (f : Latched → Latched) : (s.latch f).lock = s.lock := rfl
@[simp] theorem State.latch_room (f : Latched → Latched) : (s.latch f).room = s.room := rfl
@[simp] theorem State.latch_rentals (f : Latched → Latched) : (s.latch f).rentals = s.rentals := rfl
@[simp] theorem State.latch_charges (f : Latched → Latched) : (s.latch f).charges = s.charges := rfl
@[simp] theorem State.latch_link (f : Latched → Latched) : (s.latch f).link = s.link := rfl
@[simp] theorem State.latch_pending (f : Latched → Latched) : (s.latch f).pending = s.pending := rfl

/-! ### setPlRx -/

@[simp] theorem State.setPlRx_powered (rx : Rx) : (s.setPlRx rx).powered = s.powered := rfl
@[simp] theorem State.setPlRx_lastStart (rx : Rx) : (s.setPlRx rx).lastStart = s.lastStart := rfl
@[simp] theorem State.setPlRx_clock (rx : Rx) : (s.setPlRx rx).clock = s.clock := rfl
@[simp] theorem State.setPlRx_lineup (rx : Rx) : (s.setPlRx rx).lineup = s.lineup := rfl
@[simp] theorem State.setPlRx_prices (rx : Rx) : (s.setPlRx rx).prices = s.prices := rfl
@[simp] theorem State.setPlRx_keys (rx : Rx) : (s.setPlRx rx).keys = s.keys := rfl
@[simp] theorem State.setPlRx_lanes (rx : Rx) : (s.setPlRx rx).lanes = s.lanes := rfl
@[simp] theorem State.setPlRx_outs (rx : Rx) : (s.setPlRx rx).outs = s.outs := rfl
@[simp] theorem State.setPlRx_lock (rx : Rx) : (s.setPlRx rx).lock = s.lock := rfl
@[simp] theorem State.setPlRx_room (rx : Rx) : (s.setPlRx rx).room = s.room := rfl
@[simp] theorem State.setPlRx_rentals (rx : Rx) : (s.setPlRx rx).rentals = s.rentals := rfl
@[simp] theorem State.setPlRx_charges (rx : Rx) : (s.setPlRx rx).charges = s.charges := rfl
@[simp] theorem State.setPlRx_link (rx : Rx) : (s.setPlRx rx).link = s.link := rfl
@[simp] theorem State.setPlRx_pending (rx : Rx) : (s.setPlRx rx).pending = s.pending := rfl

/-! ### buildReply -/

@[simp] theorem State.buildReply_powered (address : Nat) (kind : PlKind) (answer : FolioAnswer) : (s.buildReply address kind answer).powered = s.powered := rfl
@[simp] theorem State.buildReply_lastStart (address : Nat) (kind : PlKind) (answer : FolioAnswer) : (s.buildReply address kind answer).lastStart = s.lastStart := rfl
@[simp] theorem State.buildReply_clock (address : Nat) (kind : PlKind) (answer : FolioAnswer) : (s.buildReply address kind answer).clock = s.clock := rfl
@[simp] theorem State.buildReply_lineup (address : Nat) (kind : PlKind) (answer : FolioAnswer) : (s.buildReply address kind answer).lineup = s.lineup := rfl
@[simp] theorem State.buildReply_prices (address : Nat) (kind : PlKind) (answer : FolioAnswer) : (s.buildReply address kind answer).prices = s.prices := rfl
@[simp] theorem State.buildReply_keys (address : Nat) (kind : PlKind) (answer : FolioAnswer) : (s.buildReply address kind answer).keys = s.keys := rfl
@[simp] theorem State.buildReply_lanes (address : Nat) (kind : PlKind) (answer : FolioAnswer) : (s.buildReply address kind answer).lanes = s.lanes := rfl
@[simp] theorem State.buildReply_outs (address : Nat) (kind : PlKind) (answer : FolioAnswer) : (s.buildReply address kind answer).outs = s.outs := rfl
@[simp] theorem State.buildReply_lock (address : Nat) (kind : PlKind) (answer : FolioAnswer) : (s.buildReply address kind answer).lock = s.lock := rfl
@[simp] theorem State.buildReply_room (address : Nat) (kind : PlKind) (answer : FolioAnswer) : (s.buildReply address kind answer).room = s.room := rfl
@[simp] theorem State.buildReply_rentals (address : Nat) (kind : PlKind) (answer : FolioAnswer) : (s.buildReply address kind answer).rentals = s.rentals := rfl
@[simp] theorem State.buildReply_charges (address : Nat) (kind : PlKind) (answer : FolioAnswer) : (s.buildReply address kind answer).charges = s.charges := rfl
@[simp] theorem State.buildReply_link (address : Nat) (kind : PlKind) (answer : FolioAnswer) : (s.buildReply address kind answer).link = s.link := rfl
@[simp] theorem State.buildReply_pending (address : Nat) (kind : PlKind) (answer : FolioAnswer) : (s.buildReply address kind answer).pending = s.pending := rfl

/-! ### raise -/

@[simp] theorem State.raise_powered (p : NoticePair) (v : Snapshot) (fault : Bool) : (s.raise p v fault).powered = s.powered := rfl
@[simp] theorem State.raise_lastStart (p : NoticePair) (v : Snapshot) (fault : Bool) : (s.raise p v fault).lastStart = s.lastStart := rfl
@[simp] theorem State.raise_clock (p : NoticePair) (v : Snapshot) (fault : Bool) : (s.raise p v fault).clock = s.clock := rfl
@[simp] theorem State.raise_lineup (p : NoticePair) (v : Snapshot) (fault : Bool) : (s.raise p v fault).lineup = s.lineup := rfl
@[simp] theorem State.raise_prices (p : NoticePair) (v : Snapshot) (fault : Bool) : (s.raise p v fault).prices = s.prices := rfl
@[simp] theorem State.raise_keys (p : NoticePair) (v : Snapshot) (fault : Bool) : (s.raise p v fault).keys = s.keys := rfl
@[simp] theorem State.raise_lanes (p : NoticePair) (v : Snapshot) (fault : Bool) : (s.raise p v fault).lanes = s.lanes := rfl
@[simp] theorem State.raise_outs (p : NoticePair) (v : Snapshot) (fault : Bool) : (s.raise p v fault).outs = s.outs := rfl
@[simp] theorem State.raise_lock (p : NoticePair) (v : Snapshot) (fault : Bool) : (s.raise p v fault).lock = s.lock := rfl
@[simp] theorem State.raise_room (p : NoticePair) (v : Snapshot) (fault : Bool) : (s.raise p v fault).room = s.room := rfl
@[simp] theorem State.raise_rentals (p : NoticePair) (v : Snapshot) (fault : Bool) : (s.raise p v fault).rentals = s.rentals := rfl
@[simp] theorem State.raise_charges (p : NoticePair) (v : Snapshot) (fault : Bool) : (s.raise p v fault).charges = s.charges := rfl
@[simp] theorem State.raise_line (p : NoticePair) (v : Snapshot) (fault : Bool) : (s.raise p v fault).line = s.line := rfl
@[simp] theorem State.raise_pending (p : NoticePair) (v : Snapshot) (fault : Bool) : (s.raise p v fault).pending = s.pending := rfl

/-! ### setMlRx -/

@[simp] theorem State.setMlRx_powered (rx : Rx) : (s.setMlRx rx).powered = s.powered := rfl
@[simp] theorem State.setMlRx_lastStart (rx : Rx) : (s.setMlRx rx).lastStart = s.lastStart := rfl
@[simp] theorem State.setMlRx_clock (rx : Rx) : (s.setMlRx rx).clock = s.clock := rfl
@[simp] theorem State.setMlRx_lineup (rx : Rx) : (s.setMlRx rx).lineup = s.lineup := rfl
@[simp] theorem State.setMlRx_prices (rx : Rx) : (s.setMlRx rx).prices = s.prices := rfl
@[simp] theorem State.setMlRx_keys (rx : Rx) : (s.setMlRx rx).keys = s.keys := rfl
@[simp] theorem State.setMlRx_lanes (rx : Rx) : (s.setMlRx rx).lanes = s.lanes := rfl
@[simp] theorem State.setMlRx_outs (rx : Rx) : (s.setMlRx rx).outs = s.outs := rfl
@[simp] theorem State.setMlRx_lock (rx : Rx) : (s.setMlRx rx).lock = s.lock := rfl
@[simp] theorem State.setMlRx_room (rx : Rx) : (s.setMlRx rx).room = s.room := rfl
@[simp] theorem State.setMlRx_rentals (rx : Rx) : (s.setMlRx rx).rentals = s.rentals := rfl
@[simp] theorem State.setMlRx_charges (rx : Rx) : (s.setMlRx rx).charges = s.charges := rfl
@[simp] theorem State.setMlRx_line (rx : Rx) : (s.setMlRx rx).line = s.line := rfl
@[simp] theorem State.setMlRx_pending (rx : Rx) : (s.setMlRx rx).pending = s.pending := rfl

/-! ### send -/

@[simp] theorem State.send_powered (reply : MlReply) : (s.send reply).powered = s.powered := rfl
@[simp] theorem State.send_lastStart (reply : MlReply) : (s.send reply).lastStart = s.lastStart := rfl
@[simp] theorem State.send_clock (reply : MlReply) : (s.send reply).clock = s.clock := rfl
@[simp] theorem State.send_lineup (reply : MlReply) : (s.send reply).lineup = s.lineup := rfl
@[simp] theorem State.send_prices (reply : MlReply) : (s.send reply).prices = s.prices := rfl
@[simp] theorem State.send_keys (reply : MlReply) : (s.send reply).keys = s.keys := rfl
@[simp] theorem State.send_lanes (reply : MlReply) : (s.send reply).lanes = s.lanes := rfl
@[simp] theorem State.send_outs (reply : MlReply) : (s.send reply).outs = s.outs := rfl
@[simp] theorem State.send_lock (reply : MlReply) : (s.send reply).lock = s.lock := rfl
@[simp] theorem State.send_room (reply : MlReply) : (s.send reply).room = s.room := rfl
@[simp] theorem State.send_rentals (reply : MlReply) : (s.send reply).rentals = s.rentals := rfl
@[simp] theorem State.send_charges (reply : MlReply) : (s.send reply).charges = s.charges := rfl
@[simp] theorem State.send_line (reply : MlReply) : (s.send reply).line = s.line := rfl
@[simp] theorem State.send_pending (reply : MlReply) : (s.send reply).pending = s.pending := rfl

/-! ### Reading what was written -/

@[simp] theorem State.lane_setLane_self (n : Screen) (l : Lane) : (s.setLane n l).lane n = l := get_set_self ..

@[simp] theorem State.lane_setLane_ne {n m : Screen} (h : m ≠ n) (l : Lane) : (s.setLane n l).lane m = s.lane m :=
  get_set_ne _ h _

@[simp] theorem State.out_place_self (n : Screen) (c : Cell) : (s.place n c).out n = some c := get_set_self ..

@[simp] theorem State.out_place_ne {n m : Screen} (h : m ≠ n) (c : Cell) : (s.place n c).out m = s.out m :=
  get_set_ne _ h _

@[simp] theorem State.unlockOf_setUnlock_self (n : Screen) (u : Option Unlock) : (s.setUnlock n u).unlockOf n = u :=
  get_set_self ..

@[simp] theorem State.unlockOf_setUnlock_ne {n m : Screen} (h : m ≠ n) (u : Option Unlock) :
    (s.setUnlock n u).unlockOf m = s.unlockOf m :=
  get_set_ne _ h _

@[simp] theorem State.unlockOf_dropUnlocks (n : Screen) : s.dropUnlocks.unlockOf n = none := get_replicate ..

@[simp] theorem State.ceiling_setCeiling_self (n : Screen) (q : Rating) : (s.setCeiling n q).ceiling n = q :=
  get_set_self ..

@[simp] theorem State.ceiling_setCeiling_ne {n m : Screen} (h : m ≠ n) (q : Rating) :
    (s.setCeiling n q).ceiling m = s.ceiling m :=
  get_set_ne _ h _

@[simp] theorem KeySlot.half_setHalf_self (k : KeySlot) (p : Parity) (h : KeyHalf) : (k.setHalf p h).half p = h := by
  cases p <;> rfl

@[simp] theorem KeySlot.half_setHalf_partner (k : KeySlot) (p : Parity) (h : KeyHalf) :
    (k.setHalf p h).half (partner p) = k.half (partner p) := by
  cases p <;> rfl

@[simp] theorem State.half_setHalf_self (slot : Fin 16) (p : Parity) (h : KeyHalf) :
    (s.setHalf slot p h).half slot p = h := by
  simp only [State.half, State.setHalf, get_set_self, KeySlot.half_setHalf_self]

@[simp] theorem State.half_setHalf_partner (slot : Fin 16) (p : Parity) (h : KeyHalf) :
    (s.setHalf slot p h).half slot (partner p) = s.half slot (partner p) := by
  simp only [State.half, State.setHalf, get_set_self, KeySlot.half_setHalf_partner]

@[simp] theorem State.keys_setHalf_ne {slot k : Fin 16} (ne : k ≠ slot) (p : Parity) (h : KeyHalf) :
    (s.setHalf slot p h).keys.get k = s.keys.get k :=
  get_set_ne _ ne _

@[simp] theorem State.lane_raise (p : NoticePair) (v : Snapshot) (fault : Bool) (n : Screen) :
    (s.raise p v fault).lane n = s.lane n := rfl

@[simp] theorem State.lane_mapRental (service : Nat) (f : Rental → Rental) (n : Screen) :
    (s.mapRental service f).lane n = s.lane n := rfl

@[simp] theorem State.lane_addPreviewUsed (service : Nat) (n : Screen) : (s.addPreviewUsed service).lane n = s.lane n := rfl

@[simp] theorem State.lane_setUnlock (m n : Screen) (u : Option Unlock) : (s.setUnlock m u).lane n = s.lane n := rfl

@[simp] theorem State.unlockOf_setLane (m n : Screen) (l : Lane) : (s.setLane m l).unlockOf n = s.unlockOf n := rfl

end Sys2Proof.Machine
end

