-- ==== Sys2Proof/Laws/Commands.lean ====
section
/-! SUPPORT. What the two links do with a frame before its owner acts, said once: hearing and matching a command frame (R166 to
R168), taking a request (R185, R186), and judging a PIN (R74, R76). -/

namespace Sys2Proof.Machine

/-! ### From a row to its shared operation -/

/-- Every command row is the one operation on its kind (R168). -/
theorem exec_command (kind : PlKind) (address : BitVec 10) (body : List Byte) (s : State) :
    exec (kind.command address body) s = .next (s.plCommand kind address body []) := by
  cases kind <;> rfl

/-- Every request row is the one operation on its kind (R186). -/
theorem exec_request (kind : MlKind) (tag : Byte) (body : List Byte) (s : State) :
    exec (kind.request tag body) s = .next (s.ifPowered (fun s => s.takeRequest kind tag body)) := by
  cases kind <;> rfl

@[simp] theorem State.ifPowered_of_powered {s : State} (h : s.powered = true) (f : State → State) : s.ifPowered f = f s := by
  simp [State.ifPowered, h]

@[simp] theorem State.ifPowered_of_unpowered {s : State} (h : s.powered = false) (f : State → State) :
    s.ifPowered f = s := by
  simp [State.ifPowered, h]

@[simp] theorem plKindOf_code (kind : PlKind) : plKindOf kind.code = some kind := by
  cases kind <;> decide

@[simp] theorem mlKindOf_code (kind : MlKind) : mlKindOf kind.code = some kind := by
  cases kind <;> decide

/-- A code that is no kind's is of no kind (11.2). -/
theorem plKindOf_none {code : BitVec 6} (h : ∀ k : PlKind, k.code ≠ code) : plKindOf code = none := by
  simp [plKindOf, h]

/-- A code that is no request kind's is of no kind (section 10.4). -/
theorem mlKindOf_none {code : Byte} (h : ∀ k : MlKind, code ≠ k.code) : mlKindOf code = none := by
  simp only [mlKindOf, List.find?_eq_none]
  exact fun k _ => by simpa using (h k).symm

/-! ### Hearing and matching -/

/-- Hearing a frame writes the line's receiver, reply, silence count and state, and of the link at most notices (R179). -/
theorem State.hearFrame_eq (s : State) :
    s.hearFrame = { s with
      line := { s.line with rx := .hunting, reply := .none, silence := 0, up := true }, link := s.hearFrame.link } := by
  unfold State.hearFrame
  dsimp only
  split <;> rfl

/-- Hearing a frame on a line that is UP raises nothing (R179). -/
theorem State.hearFrame_link_of_up {s : State} (h : s.line.up = true) : s.hearFrame.link = s.link := by
  simp [State.hearFrame, h]

theorem State.hearFrame_onlyNotices (s : State) : OnlyNotices s s.hearFrame := by
  unfold OnlyNotices State.hearFrame
  dsimp only
  split <;> rfl

/-- An addressed command of the right length is heard, acts and is answered from the state it left (R168, R170). -/
theorem State.plCommand_addressed {s : State} {address : BitVec 10} (h : s.AddressedBy address) (kind : PlKind)
    (body : List Byte) (order : List ClockTask) :
    s.plCommand kind address body order = s.hearFrame.takeAddressed address.toNat kind body order := by
  obtain ⟨listen, here, low, high⟩ := h
  have notBroadcast : address.toNat ≠ broadcastAddress := by simp only [broadcastAddress]; omega
  have notZero : address.toNat ≠ 0 := by omega
  unfold State.plCommand State.takeCommand
  rw [if_pos listen, matchAddress, if_neg notBroadcast, if_neg notZero, if_pos here]

/-- A broadcast is heard and taken by its kind and length (R168, steps 2 to 5). -/
theorem State.plCommand_broadcast {s : State} {address : BitVec 10} (h : s.BroadcastBy address) (kind : PlKind)
    (body : List Byte) (order : List ClockTask) :
    s.plCommand kind address body order = s.hearFrame.takeBroadcast kind body order := by
  obtain ⟨listen, all⟩ := h
  unfold State.plCommand State.takeCommand
  rw [if_pos listen, matchAddress, if_pos all]

/-! ### Taking a request -/

/-- With no RESTART reply on the transmitter its last frame simply ends (R185). -/
theorem State.finishTx_of_ready {s : State} (h : s.link.tx.isRestart = false) : s.finishTx = s.setTx .idle := by
  simp [State.finishTx, h]

@[simp] theorem State.answers_setTx (s : State) (tx : MlTx) : (s.setTx tx).link.answers = s.link.answers := rfl
@[simp] theorem State.buffer_setTx (s : State) (tx : MlTx) : (s.setTx tx).link.buffer = s.link.buffer := rfl
@[simp] theorem State.tx_setTx (s : State) (tx : MlTx) : (s.setTx tx).link.tx = tx := rfl

/-- With nothing waiting an idle transmitter stays idle (R185 step 3). -/
theorem State.chooseNext_of_empty {s : State} (answers : s.link.answers = []) (buffer : s.link.buffer = []) :
    s.chooseNext = s := by
  simp [State.chooseNext, answers, buffer]

/-- A buffer emptied that was empty (R184). -/
theorem State.setBuffer_of_empty {s : State} (buffer : s.link.buffer = []) : s.setBuffer [] = s := by
  simp [State.setBuffer, ← buffer]

/-- A frame that comes to an idle transmitter with nothing waiting is handled at once (R184, R185). -/
theorem State.arrive_of_idle {s : State} (idle : s.link.tx = .idle) (answers : s.link.answers = [])
    (buffer : s.link.buffer = []) (f : MlFrame) : s.arrive f = s.handle f [] := by
  have joined : s.offer f = s.setBuffer [f] := by
    simp [State.offer, State.setBuffer, buffer, linkPlaces]
  have chosen : (s.setBuffer [f]).chooseIfIdle = (s.setBuffer [f]).handle f [] := by
    have stillIdle : (s.setBuffer [f]).link.tx = .idle := idle
    have stillNone : (s.setBuffer [f]).link.answers = [] := answers
    have one : (s.setBuffer [f]).link.buffer = [f] := rfl
    simp only [State.chooseIfIdle, stillIdle, if_true, State.chooseNext, stillNone, one]
  rw [State.arrive, joined, chosen]
  rfl

/-- A request row at a ready part: the request is judged with nothing waiting, and answered (R185, R186). -/
theorem State.takeMlFrame_of_ready {s : State} (h : s.Ready) (f : MlFrame) :
    s.takeMlFrame f = (((s.setTx .idle).judgeFrame f).1.setBuffer []).send (f.reply ((s.setTx .idle).judgeFrame f).2) := by
  obtain ⟨-, none, answers, buffer⟩ := h
  have next : s.transmitNext = s.setTx .idle := by
    rw [State.transmitNext, finishTx_of_ready none]
    exact State.chooseNext_of_empty (s := s.setTx .idle) answers buffer
  have away : ¬ f ∈ s.link.buffer := by simp [buffer]
  have taken : (s.setTx .idle).arrive f = (s.setTx .idle).handle f [] :=
    State.arrive_of_idle (s := s.setTx .idle) rfl answers buffer f
  have same : (s.setTx .idle).setBuffer [] = s.setTx .idle := State.setBuffer_of_empty (s := s.setTx .idle) buffer
  rw [State.takeMlFrame, if_neg away, next, taken, State.handle, same]

/-- A request row of a known kind at a ready part (R186, steps 2 and 3). -/
theorem State.takeRequest_of_ready {s : State} (h : s.Ready) (kind : MlKind) (tag : Byte) (body : List Byte) :
    s.takeRequest kind tag body =
      (((s.setTx .idle).judgeRequest kind body).1.setBuffer []).send
        ⟨kind.code, tag, ((s.setTx .idle).judgeRequest kind body).2.1, ((s.setTx .idle).judgeRequest kind body).2.2⟩ := by
  simp only [State.takeRequest, State.takeMlFrame_of_ready h, State.judgeFrame, mlKindOf_code, MlFrame.reply]

/-- What waits after the transmitter's choice does so behind a frame being sent: an idle one leaves nothing waiting (R185). -/
theorem State.chooseNext_idle (s : State) (h : s.chooseNext.link.tx = .idle) :
    s.link.answers = [] ∧ s.link.buffer = [] ∧ s.chooseNext = s := by
  rcases answers : s.link.answers with _ | ⟨a, rest⟩
  · rcases buffer : s.link.buffer with _ | ⟨f, rest⟩
    · exact ⟨rfl, rfl, State.chooseNext_of_empty answers buffer⟩
    · simp [State.chooseNext, answers, buffer, State.handle, State.send] at h
  · simp [State.chooseNext, answers, State.send] at h

/-! ### Judging a PIN -/

/-- With the PIN condition met nothing is refused, and the count is 0 where a PIN is set (R74, R76). -/
theorem State.judgePin_met {s : State} {carried : Option Nat} (h : s.PinMet carried) (required : Bool) :
    s.judgePin required carried = (if s.lock.pin = none then s else s.setFailures 0, none) := by
  rcases pin : s.lock.pin with _ | p
  · simp [State.judgePin, pin]
  · rcases h with none | ⟨free, same⟩
    · simp [pin] at none
    · obtain rfl : carried = some p := same.symm.trans pin
      simp [State.judgePin, pin, State.pinAttempt, free]

/-- A missing PIN makes no attempt (R76). -/
theorem State.judgePin_missing {s : State} {pin : Nat} (h : s.lock.pin = some pin) (required : Bool) :
    s.judgePin required none = (s, if required then some .pinRequired else none) := by
  simp [State.judgePin, h]

/-- An attempt during the lockout is refused and leaves no trace (R74). -/
theorem State.judgePin_lockedOut {s : State} {pin : Nat} (h : s.lock.pin = some pin) (locked : s.lock.lockout = true)
    (required : Bool) (c : Nat) : s.judgePin required (some c) = (s, some .pinLocked) := by
  simp [State.judgePin, h, State.pinAttempt, locked]

/-- A wrong PIN outside a lockout is refused and counted (R74). -/
theorem State.judgePin_wrong {s : State} {pin c : Nat} (h : s.lock.pin = some pin) (free : s.lock.lockout = false)
    (ne : c ≠ pin) (required : Bool) : s.judgePin required (some c) = (s.wrongPin, some .pinWrong) := by
  simp [State.judgePin, h, State.pinAttempt, free, ne]

end Sys2Proof.Machine
end

