-- ==== Sys2Proof/Laws/Viewing.lean ====
section
/-! SUPPORT. All that an admission can reach, said once (R47 to R55, R61): the outcome of a lane, seats and waiting lists, the
preview-used list, and notices. `Viewing s t` is the one frame the proofs about lanes cite. -/

namespace Sys2Proof.Machine

/-- From s to t only outcomes of lanes, seats, waiting lists, the preview-used list and notices differ. -/
structure Viewing (s t : State) : Prop where
  only : OnlyViewing s t
  settings : ∀ n : Screen, (t.lane n).settings = (s.lane n).settings
  unseated : t.rentals.map Rental.unseated = s.rentals.map Rental.unseated

theorem OnlyViewing.refl (s : State) : OnlyViewing s s := ⟨rfl, rfl⟩

theorem OnlyViewing.trans {s t u : State} (h : OnlyViewing s t) (k : OnlyViewing t u) : OnlyViewing s u := by
  obtain ⟨h1, h2⟩ := h
  obtain ⟨k1, k2⟩ := k
  refine ⟨?_, ?_⟩
  · rw [k1, h1]
  · rw [OnlyNotices] at *
    rw [k2, h2]

theorem Viewing.refl (s : State) : Viewing s s := ⟨.refl s, fun _ => rfl, rfl⟩

theorem Viewing.trans {s t u : State} (h : Viewing s t) (k : Viewing t u) : Viewing s u :=
  ⟨h.only.trans k.only, fun n => (k.settings n).trans (h.settings n), k.unseated.trans h.unseated⟩

/-- A change of a lane that keeps its settings stays in view. -/
theorem Viewing.setLane (s : State) (n : Screen) (l : Lane) (h : l.settings = (s.lane n).settings) :
    Viewing s (s.setLane n l) where
  only := ⟨rfl, rfl⟩
  settings m := by
    by_cases e : m = n
    · subst e; rw [State.lane_setLane_self, h]
    · rw [State.lane_setLane_ne s e]
  unseated := rfl

theorem Viewing.raise (s : State) (p : NoticePair) (v : Snapshot) (fault : Bool) : Viewing s (s.raise p v fault) :=
  ⟨⟨rfl, rfl⟩, fun _ => rfl, rfl⟩

theorem Viewing.addPreviewUsed (s : State) (service : Nat) : Viewing s (s.addPreviewUsed service) :=
  ⟨⟨rfl, rfl⟩, fun _ => rfl, rfl⟩

/-- A change of a rental's seats alone stays in view. -/
theorem Viewing.mapRental (s : State) (service : Nat) (f : Rental → Rental) (h : ∀ r, (f r).unseated = r.unseated) :
    Viewing s (s.mapRental service f) where
  only := ⟨rfl, rfl⟩
  settings _ := rfl
  unseated := by
    simp only [State.mapRental, List.map_map]
    refine List.map_congr_left fun r _ => ?_
    show (if (r.service == service) = true then f r else r).unseated = r.unseated
    split
    · exact h r
    · rfl

theorem Viewing.mapTunedRental (s : State) (n : Screen) (f : Rental → Rental) (h : ∀ r, (f r).unseated = r.unseated) :
    Viewing s (s.mapTunedRental n f) := by
  unfold State.mapTunedRental
  split
  · exact .refl s
  · exact .mapRental s _ f h

@[simp] theorem Rental.unseated_without (r : Rental) (n : Screen) : (r.without n).unseated = r.unseated := rfl
@[simp] theorem Rental.unseated_seat (r : Rental) (n : Screen) : (r.seat n).unseated = r.unseated := rfl
@[simp] theorem Rental.unseated_join (r : Rental) (n : Screen) : (r.join n).unseated = r.unseated := rfl

@[simp] theorem State.lane_mapTunedRental (s : State) (n m : Screen) (f : Rental → Rental) :
    (s.mapTunedRental n f).lane m = s.lane m := by
  unfold State.mapTunedRental; split <;> rfl

theorem Viewing.change (s : State) (n : Screen) (state : LaneState) (standing : Standing) (stop : Option Nat) :
    Viewing s (s.change n state standing stop) := by
  have first := Viewing.setLane s n
    { s.lane n with state := state, standing := standing, previewEnd := stop } rfl
  unfold State.change
  dsimp only
  split
  · exact first
  · exact first.trans (.raise _ _ _ _)

/-- The outcome of the lane that a change is of. -/
theorem State.lane_change_self (s : State) (n : Screen) (state : LaneState) (standing : Standing) (stop : Option Nat) :
    (s.change n state standing stop).lane n =
      { s.lane n with state := state, standing := standing, previewEnd := stop } := by
  unfold State.change
  split <;> simp [State.raiseLane]

theorem State.lane_change_ne (s : State) {n m : Screen} (h : m ≠ n) (state : LaneState) (standing : Standing)
    (stop : Option Nat) : (s.change n state standing stop).lane m = s.lane m := by
  unfold State.change
  split <;> simp [State.raiseLane, h]

/-- A change of a lane's outcome after a change of its rental's seats. -/
theorem Viewing.seatsThenChange (s : State) (n : Screen) (f : Rental → Rental) (h : ∀ r, (f r).unseated = r.unseated)
    (state : LaneState) (standing : Standing) (stop : Option Nat) :
    Viewing s ((s.mapTunedRental n f).change n state standing stop) :=
  (Viewing.mapTunedRental s n f h).trans (.change _ n state standing stop)

theorem Viewing.settle (s : State) (n : Screen) (v : Verdict) : Viewing s (s.settle n v) := by
  have out := Viewing.seatsThenChange s n (·.without n) (fun _ => rfl)
  cases v with
  | off => exact out _ _ _
  | blank reason => exact out _ _ _
  | openFree => exact out _ _ _
  | seatKeep => exact .change s n _ _ _
  | seatGrant => exact .seatsThenChange s n (·.seat n) (fun _ => rfl) _ _ _
  | waitJoin => exact .seatsThenChange s n (·.join n) (fun _ => rfl) _ _ _
  | waitKeep => exact .change s n _ _ _
  | previewKeep => exact .refl s
  | previewStart seconds =>
    simp only [State.settle]
    split
    · exact out _ _ _
    · exact (out _ _ _).trans (.addPreviewUsed _ _)

/-- A settled lane leaves every other lane as it was. -/
theorem State.lane_settle_ne (s : State) {n m : Screen} (h : m ≠ n) (v : Verdict) : (s.settle n v).lane m = s.lane m := by
  cases v <;> simp only [State.settle] <;> (try split) <;> simp [State.lane_change_ne _ h]

theorem Viewing.handOver (service : Nat) : ∀ (waiting : List Screen) (s : State), Viewing s (handOver service waiting s)
  | [], s => .refl s
  | w :: rest, s => by
    have given := (Viewing.mapRental s service (·.seat w) (fun _ => rfl)).trans
      (.setLane (s.mapRental service (·.seat w)) w { s.lane w with standing := .holding } rfl)
    simp only [Machine.handOver]
    split
    · exact given.trans (.settle _ w _)
    · exact (given.trans (.settle _ w _)).trans (Viewing.handOver service rest _)

theorem Viewing.handOn (s : State) (before : Lane) : Viewing s (s.handOn before) := by
  unfold State.handOn
  split
  · exact .handOver _ _ s
  · exact .refl s

/-- An outcome taken is in view (R51, R55). -/
theorem Viewing.admitAs (s : State) (n : Screen) (v : Verdict) : Viewing s (s.admitAs n v) := by
  unfold State.admitAs
  split
  · exact (Viewing.settle s n v).trans (.handOn _ _)
  · exact .settle s n v

/-- An admission is in view (R47 to R51, R55). -/
theorem Viewing.admitLane (s : State) (n : Screen) : Viewing s (s.admitLane n) := .admitAs s n _

/-- A fold of updates each of which stays in view. -/
theorem Viewing.foldl {α : Type} (f : State → α → State) (h : ∀ s a, Viewing s (f s a)) :
    ∀ (as : List α) (s : State), Viewing s (as.foldl f s)
  | [], s => .refl s
  | a :: as, s => (h s a).trans (Viewing.foldl f h as (f s a))

theorem Viewing.admitEach (s : State) (order : List Screen) : Viewing s (s.admitEach order) :=
  .foldl _ Viewing.admitLane order s

/-- A ROOM_RESET's re-admission is in view (R66). -/
theorem Viewing.resetLane (s : State) (n : Screen) : Viewing s (s.resetLane n) := by
  unfold State.resetLane
  split
  · exact .admitAs s n _
  · exact .admitLane s n

theorem Viewing.admitAll (s : State) : Viewing s s.admitAll := .admitEach s _

theorem Viewing.admitTuned (s : State) (service : Nat) (order : List Screen) : Viewing s (s.admitTuned service order) := by
  refine .foldl _ (fun s n => ?_) order s
  unfold State.admitIfTuned
  split
  · exact .admitLane s n
  · exact .refl s

/-- A release is in view: the lane keeps its service (R55). -/
theorem Viewing.release (s : State) (n : Screen) : Viewing s (s.release n) := by
  have left := Viewing.mapTunedRental s n (·.without n) (fun _ => rfl)
  have stood := Viewing.setLane (s.mapTunedRental n (·.without n)) n { s.lane n with standing := .none }
    (by rw [State.lane_mapTunedRental]; rfl)
  exact (left.trans stood).trans (.handOn _ _)

/-- What nothing in view can change, read off a frame. -/
theorem Viewing.fields {s t : State} (h : Viewing s t) :
    t.powered = s.powered ∧ t.lastStart = s.lastStart ∧ t.clock = s.clock ∧ t.lineup = s.lineup ∧ t.prices = s.prices ∧
      t.keys = s.keys ∧ t.outs = s.outs ∧ t.lock = s.lock ∧ t.charges = s.charges ∧ t.line = s.line ∧
      t.pending = s.pending := by
  rw [h.only.1]
  exact ⟨rfl, rfl, rfl, rfl, rfl, rfl, rfl, rfl, rfl, rfl, rfl⟩

end Sys2Proof.Machine
end

