-- ==== Sys2Proof/Laws/Rentals.lean ====
section
/-! SUPPORT. What the end of a rental and the untuning of a lane can reach, said once (R46, R122). -/

namespace Sys2Proof.Machine

/-- A fold that only clears standings stays in view. -/
theorem Viewing.clearStandings (s : State) (lanes : List Screen) : Viewing s (s.clearStandings lanes) :=
  .foldl _ (fun s n => .setLane s n { s.lane n with standing := .none } rfl) lanes s

/-- Clearing standings leaves the rentals. -/
theorem State.rentals_clearStandings (lanes : List Screen) : ∀ s : State, (s.clearStandings lanes).rentals = s.rentals := by
  induction lanes with
  | nil => exact fun _ => rfl
  | cons n rest ih => exact fun s => ih _

/-- The end of a rental: it leaves the list, the others keep all but their seats, the lanes keep their settings, and nothing
outside the view changes (R122). -/
theorem State.endRental_view (s : State) (index : Fin 8) (held : (s.rentalAt index).isSome) :
    OnlyViewing s (s.endRental index) ∧
      (∀ n : Screen, ((s.endRental index).lane n).settings = (s.lane n).settings) ∧
      (s.endRental index).rentals.map Rental.unseated =
        (s.rentals.filter (fun r => r.index ≠ index)).map Rental.unseated := by
  obtain ⟨r, at_⟩ := Option.isSome_iff_exists.mp held
  let s1 : State := { s with rentals := s.rentals.filter (fun x => x.index ≠ index) }
  have ends : s.endRental index =
      ((s1.clearStandings (r.seats ++ r.waiting)).admitTuned r.service screens).raiseRentals := by
    simp only [State.endRental, at_, s1]
  have view : Viewing s1 (s.endRental index) := by
    rw [ends]
    exact ((Viewing.clearStandings s1 _).trans (.admitTuned _ _ _)).trans (.raise _ _ _ _)
  refine ⟨?_, view.settings, view.unseated⟩
  exact OnlyViewing.trans ⟨rfl, rfl⟩ view.only

/-- An index that no rental holds ends nothing. -/
theorem State.endRental_none (s : State) (index : Fin 8) (free : s.rentalAt index = none) : s.endRental index = s := by
  simp only [State.endRental, free]

/-- An untuned lane is as after a start but for its shutdown flag, which stands (R46). -/
theorem State.lane_untuneLane (s : State) (n : Screen) :
    (s.untuneLane n).lane n = { Lane.atStart with shutdown := (s.lane n).shutdown } := by
  have kept : ((s.release n).lane n).shutdown = (s.lane n).shutdown :=
    congrArg (fun x => x.2.2.2) ((Viewing.release s n).settings n)
  unfold State.untuneLane
  dsimp only
  split <;> simp [State.raiseLane, kept]

/-- An untuned lane's screen holds no unlock (R46). -/
theorem State.unlockOf_untuneLane (s : State) (n : Screen) : (s.untuneLane n).unlockOf n = none := by
  unfold State.untuneLane
  dsimp only
  split
  · rw [State.unlockOf_setLane, State.unlockOf_setUnlock_self]
  · exact State.unlockOf_setUnlock_self (s.release n) n none

end Sys2Proof.Machine
end

