-- ==== Sys2Proof/Tests/Slice0.lean ====
section
/-! SUPPORT. Tests. The values expected come from the tables and worked examples of spec/: the source of each is named. The
witnesses show, for each statement that has hypotheses, states and operands that meet them. -/

namespace Sys2Proof.Tests

open Sys2Proof.Machine

-- one theorem at a time: each of them is a small computation, and a thread for each would cost more
set_option Elab.async false

/-! ### Computations with worked values -/

/-- R166: the check of the characters "123456789". -/
theorem test_crc_check_value : crc16 [0x31, 0x32, 0x33, 0x34, 0x35, 0x36, 0x37, 0x38, 0x39] = 0x29B1 := by decide +kernel

/-- Section 2.6, the worked check: eight zero bytes under control word 0 and continuity 0. -/
theorem test_transform_first_block :
    (transform 0 0 (List.replicate 192 0)).take 8 = [0x3B, 0x1D, 0x7E, 0x29, 0x0A, 0x56, 0xC4, 0xE7] := by decide +kernel

/-- Section 2.6: with control word 0505…05 the keystream at continuity 5 is that of the first check, and at 4 it is not. -/
theorem test_transform_seed :
    (transform 0x0505050505050505 5 (List.replicate 192 0)).take 8 = [0x3B, 0x1D, 0x7E, 0x29, 0x0A, 0x56, 0xC4, 0xE7] ∧
    (transform 0x0505050505050505 4 (List.replicate 192 0)).take 8 ≠ [0x3B, 0x1D, 0x7E, 0x29, 0x0A, 0x56, 0xC4, 0xE7] := by
  decide +kernel

/-- Section 12.2: base 1,299 and 1,499 at 1,150 per mille and 1,250 basis points give 1,681 and 1,940. -/
theorem test_amounts_of_the_night :
    chargeAmount 1299 1150 1250 0 0 = 1681 ∧ chargeAmount 1499 1150 1250 0 1681 = 1940 := by decide

/-- Section 5.7: the gross of 1,940 limited to a period's remainder of 1,681, and marked CAPPED. -/
theorem test_amount_capped :
    chargeAmount 1499 1150 1250 1681 0 = 1681 ∧ cappedMark 1499 1150 1250 1681 0 = true := by decide

/-- Section 5.7: the boundaries of the worked cap periods, and the cap raised to the billed total. -/
theorem test_cap_periods :
    boundaryAfter 1000000000 10800 = 1000004400 ∧ boundaryAfter 1000004400 10800 = 1000090800 ∧
    boundaryAtOrBefore 1000200000 10800 = 1000177200 ∧ storedCap 1000 1681 = 1681 := by decide

/-- The table under R70: the ratings 12,4,5,0 and 7,8,2,15 and 9,6,6,3 against the ceilings 9, 6, 6, 3. -/
theorem test_rating_compare :
    ratingCompare ⟨12, 4, 5, 0⟩ ⟨9, 6, 6, 3⟩ = ⟨true, false, false, false⟩ ∧
    ratingCompare ⟨7, 8, 2, 15⟩ ⟨9, 6, 6, 3⟩ = ⟨false, true, false, true⟩ ∧
    (ratingCompare ⟨9, 6, 6, 3⟩ ⟨9, 6, 6, 3⟩).any = false := by decide

/-- 11.2: the codes and body lengths of the commands, in the order of the table. -/
theorem test_command_codes :
    plKinds.map (fun k => (k.code.toNat, k.bodyLength)) =
      [(0x01, 1), (0x02, 18), (0x03, 3), (0x04, 6), (0x05, 14), (0x06, 4), (0x07, 0), (0x10, 34), (0x11, 0), (0x12, 26),
        (0x13, 0), (0x18, 0), (0x19, 2), (0x1A, 2), (0x1B, 2), (0x1C, 2), (0x20, 1), (0x21, 1), (0x22, 0)] := by decide

/-- 11.5: the codes of the requests, in the order of the table. -/
theorem test_request_codes :
    mlKinds.map (fun k => k.code.toNat) = [1, 2, 3, 4, 5, 6, 7, 8, 9, 10, 11, 12, 13, 14, 15, 16, 17, 18] := by decide

/-! ### Well-formedness: each check refuses a command that breaks it -/

theorem test_wf_refuses_a_short_payload : (Instr.clearCell 0 1 0 0 [1, 2, 3]).wf = false ∧
    (Instr.scrambledCell 0 .even 1 0 0 [1, 2, 3]).wf = false ∧ (Instr.ratingCell 0 1 0 0 [1, 2, 3]).wf = false := by decide

theorem test_wf_refuses_a_body_above_48 : (Instr.statusPoll 7 (List.replicate 49 0)).wf = false ∧
    (Instr.frameNotForRoom 7 1 (List.replicate 49 0)).wf = false ∧
    (Instr.plUnknownKind 7 0x3F (List.replicate 49 0)).wf = false := by decide

theorem test_wf_refuses_a_request_above_120 : (Instr.status 0 (List.replicate 121 0)).wf = false ∧
    (Instr.mlGoodFrame 2 0 (List.replicate 121 0)).wf = false := by decide +kernel

theorem test_wf_refuses_a_broadcast_not_for_the_room : (Instr.frameNotForRoom 1023 1 []).wf = false := by decide

theorem test_wf_refuses_a_known_unknown_kind : (Instr.plUnknownKind 7 1 []).wf = false ∧
    (Instr.mlUnknownRequest 1 0 []).wf = false := by decide

theorem test_wf_refuses_a_count_in_range : (Instr.plBodyCountAbort [0x96, 0, 0, 48]).wf = false ∧
    (Instr.plBodyCountAbort []).wf = false ∧ (Instr.mlLengthAbort [0xC3, 120]).wf = false := by decide

theorem test_wf_refuses_a_check_without_characters : (Instr.plBadCrcFrame []).wf = false ∧
    (Instr.mlBadCrcFrame []).wf = false := by decide

theorem test_fits_refuses_what_did_not_come_about :
    (Instr.plBodyCountAbort [0x55, 49]).fits State.reset = false ∧ (Instr.plBadCrcFrame [0x96]).fits State.reset = false ∧
    (Instr.mlLengthAbort [121]).fits State.reset = false ∧ (Instr.mlBadCrcFrame [0xC3]).fits State.reset = false ∧
    (Instr.plUnknownKind 5 0x3F []).fits State.reset = false ∧
    (Instr.frameNotForRoom 412 1 []).fits { State.reset with room := { State.reset.room with address := 412 } } = false := by
  decide +kernel

theorem test_wf_takes_the_limits : (Instr.clearCell 0 1 0 0 (List.replicate 192 0)).wf = true ∧
    (Instr.statusPoll 7 (List.replicate 48 0)).wf = true ∧ (Instr.status 0 (List.replicate 120 0)).wf = true ∧
    (Instr.plBodyCountAbort [0x96, 0, 0, 49]).wf = true ∧ (Instr.mlLengthAbort [0xC3, 121]).wf = true := by decide +kernel

/-! ### The suite of section 12.2 -/

/-- Some services of the suite, a package and an event beside them. -/
def table : List LineupEntry :=
  [⟨12, false, none, ⟨0, 0, 0, 0⟩, .free⟩, ⟨14, false, none, ⟨0, 0, 0, 0⟩, .package 2⟩,
    ⟨2301, false, some 3, ⟨10, 6, 6, 3⟩, .film 4 300⟩, ⟨2302, false, some 3, ⟨12, 9, 8, 4⟩, .film 5 300⟩,
    ⟨2400, false, some 5, ⟨0, 0, 0, 0⟩, .event 5 0 2000 5000⟩]

/-- One entry of it. -/
def film : LineupEntry := ⟨2301, false, some 3, ⟨10, 6, 6, 3⟩, .film 4 300⟩

/-- The suite checked in, its lanes OFF, at room clock 1,000 and run second 100. -/
def suite : State :=
  { State.reset with
    clock := ⟨true, 1000, 100⟩
    lineup := ⟨table, 9, .idle, [], false⟩
    prices := (State.reset.prices.set 4 ⟨1299, 24, 2, 10, true⟩).set 5 ⟨1499, 24, 1, 10, true⟩
    keys := State.reset.keys.set 3 ⟨⟨.live, 1, 40, 4294967295⟩, ⟨.staged, 2, 41, 4294967295⟩⟩
    room := ⟨412, .occupied, 501, ⟨4, false, 20000, 0, 0, 1150, 1250, false, 4, 3600, 7200⟩, 0, some ⟨900, 86400⟩, 0, [], [],
      false⟩
    line := ⟨.hunting, .clear, true, 0, .none⟩
    link := .atStart }

/-- The suite with rental 0 of film 2301 and its charge 70: lane 0 holds a seat, lane 1 previews 2302. -/
def watching : State :=
  { (suite.setLane 0 ⟨some 2301, .opened, false, ⟨10, 6, 6, 3⟩, false, none, .holding⟩).setLane 1
      ⟨some 2302, .preview, false, ⟨12, 9, 8, 4⟩, false, some 200, .none⟩ with
    rentals := [⟨0, 2301, .film, 501, some 70, 1681, false, false, 900, 87300, 2, 10, 0, [0], []⟩]
    charges := ⟨[⟨.charge, 70, 501, 2301, 1681, 1250, 900, .waiting⟩], 71⟩
    room := { suite.room with spend := 1681, billed := 1681, history := [900], previewUsed := [2301, 2302] } }

/-- The suite with its charge in another state. -/
def charged (state : ChargeState) : State :=
  { watching with charges := ⟨[⟨.charge, 70, 501, 2301, 1681, 1250, 900, state⟩], 71⟩ }

/-- What a command leaves. -/
def after (c : Instr) (s : State) : State :=
  match exec c s with
  | .next t => t
  | _ => s

/-! ### One step of the night (section 12.2) -/

theorem test_tune_starts_a_preview : ((after (.tune 1 (0 :: beBytes 2 2301)) suite).lane 0).state = .preview ∧
    ((after (.tune 1 (0 :: beBytes 2 2301)) suite).lane 0).previewEnd = some 400 := by decide +kernel

theorem test_tune_finds_the_preview_used : ((after (.tune 1 (2 :: beBytes 2 2302)) watching).lane 2).state =
    .blank .purchaseNeeded := by decide +kernel

theorem test_purchase_makes_the_rental : ((after (.purchase 1 (1 :: beBytes 2 2302)) watching).rentals.map
      (fun r => (r.index, r.charge, r.amount, r.seats))) = [(0, some 70, 1681, [0]), (1, some 71, 1940, [1])] ∧
    (after (.purchase 1 (1 :: beBytes 2 2302)) watching).room.spend = 3621 := by decide +kernel

theorem test_purchase_is_held : (after (.purchase 1 (1 :: beBytes 2 2302)) (charged .declined)).link.tx =
    .sending ⟨7, 1, .billingHeld, .none⟩ := by decide +kernel

theorem test_rating_rise_locks_the_lane :
    ((after (.ratingCell 0 2301 0 0 ([14, 9, 9, 9] ++ List.replicate 188 0)) (watching.setCeiling 0 ⟨12, 9, 9, 6⟩)).lane 0).state
      = .blank .locked := by decide +kernel

theorem test_odd_cell_moves_the_halves :
    ((after (.scrambledCell 0 .odd 2301 0 41 (List.replicate 192 0)) watching).half 3 .even).state = .spent ∧
    ((after (.scrambledCell 0 .odd 2301 0 41 (List.replicate 192 0)) watching).half 3 .odd).state = .live := by decide +kernel

theorem test_wrong_epoch_is_a_key_miss :
    ((after (.scrambledCell 0 .even 2301 0 39 (List.replicate 192 0)) watching).lane 0).keyMiss = true ∧
    ((after (.scrambledCell 0 .even 2301 0 39 (List.replicate 192 0)) watching).lane 0).state = .opened := by decide +kernel

theorem test_load_never_overwrites_a_live_half :
    ((after (.keyLoad 412 (KeyLoad.layout ⟨3, .even, 42, 7, 4294967295⟩)) watching).half 3 .even).epoch = 40 ∧
    (after (.keyLoad 412 (KeyLoad.layout ⟨3, .even, 42, 7, 4294967295⟩)) watching).line.latched.keyRefused = true := by
  decide +kernel

theorem test_collect_offers_the_head : (after (.collect 412 []) watching).charges.entries.map (·.state) = [.offered] := by
  decide +kernel

theorem test_repeated_confirm_is_stale :
    (match (after (.confirm 412 (beBytes 2 69)) (charged .offered)).line.reply with
      | .built r => some r.flags.answer
      | _ => none) = some .stale := by decide +kernel

theorem test_waive_takes_the_charge_off : (after (.waive 412 (beBytes 2 70)) (charged .declined)).room.spend = 0 ∧
    (after (.waive 412 (beBytes 2 70)) (charged .declined)).rentals.map (·.waived) = [true] := by decide +kernel

theorem test_cancel_of_an_offered_charge_is_a_credit :
    (after (.cancelRental 1 [0]) (charged .offered)).charges.entries.map (fun e => (e.kind, e.number, e.amount)) =
      [(.charge, 70, 1681), (.credit 70, 71, 1681)] := by decide +kernel

theorem test_check_out_closes : (after (.checkOut 412 []) watching).room.occupancy = .closing ∧
    (after (.checkOut 412 []) watching).rentals = [] ∧
    ((after (.checkOut 412 []) watching).lane 0).state = .blank .vacant := by decide +kernel

/-- R57, R66: the preview of a service pushed out of the list ends at a ROOM_RESET, and no other begins. -/
theorem test_room_reset_begins_no_preview :
    ((after (.roomReset 412 []) { watching with room := { watching.room with previewUsed := [] } }).lane 1).state =
      .blank .purchaseNeeded := by decide +kernel

/-- R84: a purchase with the PIN condition met renews the hold of an unlock held, here from 150 to 100 + 7,200. -/
theorem test_purchase_renews_an_unlock :
    (after (.purchase 1 (1 :: beBytes 2 2302))
      ((watching.setCeiling 1 ⟨9, 6, 6, 3⟩).setUnlock 1 (some ⟨2302, 150⟩))).unlockOf 1 = some ⟨2302, 7300⟩ := by
  decide +kernel

/-- R122, R156: a cold start ends the rental and the hold, each with its notice behind START. -/
theorem test_cold_start_notices : (after (.powerOn false []) (charged .declined)).link.notices.map (·.pair) =
    [.start, .rentals, .billing] := by decide +kernel

/-- R90: the clock counts on while the reset pin is held. -/
theorem test_reset_pin_counts : (after (.resetPin ⟨true, 60⟩ []) watching).clock = ⟨true, 1060, 0⟩ := by decide +kernel

/-- R185: an idle transmitter takes a good frame at once, and of five more the last is overrun. -/
theorem test_good_frame_is_taken_at_once :
    (after (.mlGoodFrame 0x02 5 []) suite).link.buffer = [] ∧
    (match (after (.mlGoodFrame 0x02 5 []) suite).link.tx with
      | .sending r => some (r.kind, r.tag, r.result)
      | .idle => none) = some (0x02, 5, .ok) ∧
    ((List.range 6).foldl (fun s tag => after (.mlGoodFrame 0x02 (BitVec.ofNat 8 tag) []) s) suite).link.answers =
      [⟨0x02, 5, .overrun, .none⟩] := by decide +kernel

/-- R15, R200: the bodies of a LINEUP_READ have one length, whatever the result. -/
theorem test_lineup_read_has_one_length :
    (ReplyBody.lineup 9 none none).bytes.length = (ReplyBody.lineup 9 (some film) (some (suite.prices.get 4))).bytes.length := by
  simp [ReplyBody.bytes, entryBytes, priceBytes, film, idOpt, namedOpt, yesNoOpt, numOpt, quadOpt, quad, beBytes,
    Terms.priceCode, Terms.previewSeconds, Terms.window, Terms.packageNumber, yesNo]

/-! ### Witnesses: states and operands that meet the statements' hypotheses -/

theorem watching_seatsOk : watching.SeatsOk :=
  ⟨by decide +kernel, by decide +kernel, by decide +kernel, by decide +kernel⟩

theorem watching_viewingOk : watching.ViewingOk := ⟨watching_seatsOk, by decide +kernel⟩

/-- The blocks of the watched suite that no other block shares meet their invariants. -/
theorem witness_invariants_of_blocks : watching.clock.Ok ∧ watching.line.Ok ∧ watching.lock.Ok ∧ watching.room.Ok := by
  decide +kernel

theorem witness_invariants_of_tables : watching.lineup.Ok ∧ watching.KeysOk := by decide +kernel

theorem witness_invariants_of_links : NoticesOk watching.link.notices ∧ watching.link.BuffersOk := by decide +kernel

/-- So do its lanes, with the locks, the seats and the pictures they rest on. -/
theorem witness_invariants_of_lanes : watching.LanesOk ∧ watching.LockLawOk ∧ watching.ViewingOk := by
  refine And.intro ?lanes (And.intro ?locks watching_viewingOk)
  all_goals decide +kernel

/-- And its rentals with the charges. -/
theorem witness_invariants_of_billing : watching.VacancyOk ∧ watching.RentalListOk ∧ watching.BillingOk ∧
    watching.charges.entries.length ≤ 12 := by decide +kernel

theorem witness_KeptByStep : ∃ t, step (watching.withCommand (.runTick [])) = .next t := ⟨_, rfl⟩

theorem witness_AStepTakesTheFrontCommandOrIdles : State.reset.pending = [] := by decide

/-- A decoding seat, and a previewed cell in the clear. -/
theorem witness_APictureNeedsASeatOrAPreview : watching.ViewingOk ∧ watching.powered = true ∧
    ((after (.scrambledCell 0 .even 2301 0 40 [7]) watching).out 0).map (·.service) = some 2301 ∧
    ((after (.clearCell 1 2302 0 0 [7]) watching).out 1).map (·.service) = some 2302 ∧
    (watching.lineup.active.find? (fun e => e.service == 2301)).map (·.terms.code) = some 2 :=
  ⟨watching_viewingOk, by decide +kernel⟩

theorem witness_ACommandFrameIsItsCharacters : ([] : List Byte).length ≤ 48 ∧ (List.replicate 48 (0 : Byte)).length ≤ 48 ∧
    suite.line.rx = .hunting := by decide

theorem witness_ARequestFrameIsItsCharacters : (List.replicate 120 (0 : Byte)).length ≤ 120 ∧ suite.powered = true ∧
    suite.link.rx = .hunting := by decide +kernel

/-- No character, and a body count of 49. -/
theorem witness_DiscardedFramesLeaveOnlyTheReceiver : suite.listening = true ∧ suite.line.reply = .none ∧
    (rxRun plRxTake suite.line.rx []).2 = [] ∧ (rxRun plRxTake suite.line.rx [0x96, 0, 0, 49]).2 = [.tooLong] := by
  decide +kernel

theorem witness_UnfitFramesReachNoOwner : suite.listening = true ∧ (0 : BitVec 10).toNat = 0 ∧
    (413 : BitVec 10).toNat ≠ suite.room.address ∧ (∀ k ∈ plKinds, k.code ≠ 0x3F) ∧ suite.AddressedBy 412 ∧
    [0#8].length ≠ PlKind.statusPoll.bodyLength ∧ suite.BroadcastBy 1023 ∧ PlKind.statusPoll.mayBroadcast = false ∧
    [0#8].length ≠ PlKind.roomReset.bodyLength := by decide +kernel

/-- The part with a reply built, and with one on the wires. -/
def replying (phase : PlReply → ReplyPhase) : State :=
  { suite with line := { suite.line with reply := phase (usualReply suite 412 .none none) } }

theorem witness_TheReplyIsSentOrAbandoned : suite.powered = true ∧
    (replying .built).line.reply = .built (usualReply suite 412 .none none) ∧ (replying .built).line.rx = .hunting ∧
    (replying .driving).line.reply = .driving (usualReply suite 412 .none none) := by decide +kernel

/-- The part sending a reply, with so many requests in the receive buffer and answers waiting. -/
def linked (requests answers : Nat) : State :=
  { suite with link := { suite.link with
      tx := .sending ⟨0x02, 4, .unknownRequest, .none⟩
      buffer := List.replicate requests ⟨0x02, 5, []⟩, answers := List.replicate answers badFrame } }

/-- Idle; sending with room in the buffer; and sending with the buffer full and with both lists full. -/
theorem witness_MlrxFramesWaitOrAreAnswered : suite.powered = true ∧ suite.link.BuffersOk ∧ (linked 4 4).link.BuffersOk ∧
    mlBrings suite [0xC3, 121] .tooLong = true ∧ mlBrings suite [0xC3, 0, 2, 5, 0, 0] .badCrc = true ∧
    (rxRun mlRxTake suite.link.rx [0xC3, 0]).2 = [] ∧ (rxRun mlRxTake suite.link.rx [0xC3, 0]).1 ≠ .hunting ∧
    (rxRun mlRxTake suite.link.rx []).1 = .hunting ∧ suite.link.tx = .idle ∧ (linked 3 0).link.tx ≠ .idle ∧
    (linked 3 0).link.buffer.length < 4 ∧ 4 ≤ (linked 4 4).link.buffer.length := by decide +kernel

/-- The part whose transmitter is sending the reply to a RESTART, an answer and a request waiting behind it. -/
def restarting : State := { watching with link := { watching.link with
  tx := .sending ⟨0x12, 1, .ok, .none⟩, answers := [badFrame], buffer := [⟨0x02, 5, []⟩] } }

theorem witness_TheTransmitterTakesTheOldest : (linked 1 1).powered = true ∧ (linked 1 1).link.tx.isRestart = false ∧
    (linked 1 1).link.answers = [badFrame] ∧ (linked 1 0).link.answers = [] ∧ (linked 1 0).link.buffer = [⟨0x02, 5, []⟩] ∧
    MlKind.status.code = 0x02 ∧ (∀ k ∈ mlKinds, (0x13 : Byte) ≠ k.code) ∧ (linked 0 0).link.buffer = [] ∧
    ⟨MlKind.status.code, 5, []⟩ ∈ (linked 1 0).link.buffer ∧ ⟨MlKind.status.code, 6, []⟩ ∉ (linked 1 0).link.buffer ∧
    (linked 1 0).link.rx = .hunting ∧ restarting.link.tx.isRestart = true := by decide +kernel

theorem witness_UnfitRequestsHaveNoEffect : suite.Ready ∧ (∀ k ∈ mlKinds, (0 : Byte) ≠ k.code) ∧
    [0#8, 0].length ∉ MlKind.tune.bodyLengths ∧ 4 ≤ (4 : Byte).toNat ∧ [1#8, 2, 3, 4].length = 4 ∧ (3 : Byte).toNat < 4 ∧
    4095 < 4096 := by decide +kernel

/-- A warm start with no test due: before the rental's and the period's ends. -/
theorem witness_AStartIsWarmOrCold : (watching.rentals.map (·.index)).Nodup ∧ State.reset.clock.isSet = false ∧
    watching.powered = true ∧ watching.clock.isSet = true ∧
    (∀ r ∈ watching.rentals, watching.clock.count < r.stop) ∧
    watching.room.period.any (fun p => decide (watching.clock.count < p.stop)) = true := by decide +kernel

theorem witness_WithoutSupplyOnlyTheClockCounts : ({ suite with powered := false } : State).powered = false ∧
    State.reset.clock.isSet = false := by decide

theorem witness_ARestartTakesEffectAfterItsReply : restarting.SeatsOk ∧ restarting.powered = true ∧
    restarting.link.tx.isRestart = true :=
  ⟨watching_seatsOk, by decide +kernel⟩

/-- The run second before the preview's end. -/
def nearPreviewEnd : State := { watching with clock := { watching.clock with run := 199 } }

/-- Timers due: the preview of screen 1 is, and no unlock is held there. -/
theorem witness_ARunTickTakesEveryTimer_due : nearPreviewEnd.powered = true ∧ nearPreviewEnd.line.Ok ∧ nearPreviewEnd.lock.Ok ∧
    nearPreviewEnd.SeatsOk ∧ nearPreviewEnd.unlockOf 1 = none ∧ (nearPreviewEnd.lane 1).state = .preview ∧
    (nearPreviewEnd.lane 1).previewEnd = some 200 ∧ 200 ≤ nearPreviewEnd.clock.run + 1 := by
  refine ⟨by decide +kernel, by decide +kernel, by decide +kernel, watching_seatsOk, ?_⟩
  decide +kernel

/-- A tick with nothing due, up to one second before the preview's end and the 300th silent second. -/
def nearlyDue : State := { watching with
  clock := { watching.clock with run := 198 }, line := { watching.line with silence := 298 } }

theorem witness_ARunTickTakesEveryTimer : nearlyDue.powered = true ∧
    (∀ n : Screen, (∀ e ∈ (nearlyDue.lane n).previewEnd.toList, min (nearlyDue.clock.run + 1) 4294967295 < e) ∧
      (nearlyDue.unlockOf n).isNone) ∧
    nearlyDue.lock.lockoutEnd = none ∧ nearlyDue.line.up = true ∧ nearlyDue.line.silence < 299 ∧ nearlyDue.line.Ok ∧
    nearlyDue.lock.Ok := by decide +kernel

/-- The run second of the preview's end. -/
def atPreviewEnd : State := { watching with clock := { watching.clock with run := 200 } }

theorem witness_PreviewsAndUnlocksExpire_preview : atPreviewEnd.powered = true ∧ (atPreviewEnd.lane 1).tuned = some 2302 ∧
    (atPreviewEnd.lane 1).standing = .none ∧ (atPreviewEnd.lane 1).previewEnd = some 200 ∧ 200 ≤ atPreviewEnd.clock.run ∧
    atPreviewEnd.rentals.any (fun r => r.service == 2302) = false ∧ (atPreviewEnd.lane 1).shutdown = false ∧
    (ratingCompare (atPreviewEnd.lane 1).rating (atPreviewEnd.ceiling 1)).any = false := by decide +kernel

/-- The watched suite with an unlock of screen 0 that ends now, under a ceiling its film exceeds. -/
def unlocked : State := (watching.setUnlock 0 (some ⟨2301, 100⟩)).setCeiling 0 ⟨9, 15, 15, 15⟩

theorem witness_PreviewsAndUnlocksExpire_unlock : unlocked.powered = true ∧ unlocked.unlockOf 0 = some ⟨2301, 100⟩ ∧
    100 ≤ unlocked.clock.run ∧ (unlocked.lane 0).shutdown = false ∧ (unlocked.lane 0).tuned.isSome ∧
    (ratingCompare (unlocked.lane 0).rating (unlocked.ceiling 0)).any = true := by decide +kernel

/-- The suite with a PIN and so many failures; the third has begun a lockout that ends at run second 100. -/
def pinned (failures : Nat) : State :=
  { watching with lock := { watching.lock with
      pin := some 4721, failures := failures, lockout := decide (failures = 3)
      lockoutEnd := if failures = 3 then some 100 else none } }

/-- The lockout, the silence and a key half at their last instants. -/
theorem witness_DueTimersEnd : (pinned 3).powered = true ∧ (pinned 3).lock.lockout = true ∧
    (pinned 3).lock.lockoutEnd = some 100 ∧ 100 ≤ (pinned 3).clock.run ∧
    ({ suite.line with silence := 300 } : PropertyLine).up = true ∧
    ((suite.setHalf 3 .odd ⟨.staged, 2, 41, 1000⟩).half 3 .odd).state ≠ .empty ∧
    ((suite.setHalf 3 .odd ⟨.staged, 2, 41, 1000⟩).half 3 .odd).validUntil ≤ suite.clock.count := by decide +kernel

theorem witness_ARoomClockSecondMakesEveryTest : watching.powered = true ∧ watching.clock.isSet = true ∧
    watching.clock.count < 4294967295 ∧ (watching.rentals.map (·.index)).Nodup ∧ watching.room.terms.capReset ≤ 86399 := by
  decide +kernel

/-- Screen 2 of the suite tuned to the event, off the air, one second before its start and before its end. -/
def eventTuned (count : Nat) : State :=
  { suite.setLane 2 ⟨some 2400, .blank .offAir, false, ⟨0, 0, 0, 0⟩, false, none, .none⟩ with
    clock := ⟨true, count, 100⟩ }

theorem witness_ARoomClockSecondMakesEveryTest_windows :
    ((eventTuned 1999).lane 2).tuned.bind (eventTuned 1999).entry = some ⟨2400, false, some 5, ⟨0, 0, 0, 0⟩, .event 5 0 2000 5000⟩ ∧
    (eventTuned 1999).clock.count + 1 = 2000 ∧ (eventTuned 4999).clock.count + 1 = 5000 ∧
    (eventTuned 1999).room.occupancy = .occupied ∧ ((eventTuned 4999).lane 2).shutdown = false ∧
    (ratingCompare ((eventTuned 4999).lane 2).rating ((eventTuned 4999).ceiling 2)).any = false := by decide +kernel

theorem witness_ASecondMetersTheRentalsInView : (∀ r ∈ watching.rentals, watching.clock.count + 1 < r.stop) ∧
    (∀ p ∈ watching.room.period.toList, watching.clock.count + 1 < p.stop) ∧
    (∀ slot ∈ slots, ∀ p ∈ [Parity.even, .odd],
      (watching.half slot p).state = .empty ∨ watching.clock.count + 1 < (watching.half slot p).validUntil) ∧
    (∀ e ∈ watching.lineup.active, ∀ w ∈ e.terms.window.toList,
      w.1 ≠ watching.clock.count + 1 ∧ w.2 ≠ watching.clock.count + 1) := by decide +kernel

/-- The watched suite at a room-clock time. -/
def atTime (count : Nat) (s : State) : State := { s with clock := { s.clock with count := count } }

theorem witness_RentalsAndEventsEnd_rental : (atTime 87300 watching).SeatsOk ∧ (atTime 87300 watching).powered = true ∧
    (atTime 87300 watching).clock.isSet = true ∧
    (atTime 87300 watching).rentals.map (fun r => decide (r.stop ≤ (atTime 87300 watching).clock.count)) = [true] :=
  ⟨watching_seatsOk, by decide +kernel⟩

/-- Both edges of the event. -/
theorem witness_RentalsAndEventsEnd_event : (atTime 2000 watching).SeatsOk ∧ (atTime 5000 watching).SeatsOk ∧
    (watching.entry 2400).map (·.terms) = some (.event 5 0 2000 5000) ∧
    (watching.entry 2400).map (·.adult) = some false ∧ watching.room.occupancy = .occupied ∧ watching.clock.isSet = true :=
  ⟨watching_seatsOk, watching_seatsOk, by decide +kernel⟩

theorem witness_TheCapPeriodRollsOver : suite.room.period = some ⟨900, 86400⟩ ∧
    86400 ≤ (atTime 86400 suite).clock.count ∧ suite.room.terms.capReset ≤ 86399 ∧
    suite.room.terms.capReset ≤ (atTime 86400 suite).clock.count := by decide +kernel

theorem witness_TimeSetMakesEveryTest : suite.AddressedBy 412 ∧ suite.BroadcastBy 1023 ∧ 4294967295 ≤ 4294967295 ∧
    (watching.rentals.map (·.index)).Nodup ∧ suite.room.terms.capReset ≤ 86399 ∧ State.reset.room.period = none ∧
    (eventTuned 1999).AddressedBy 412 ∧ ((eventTuned 1999).lane 2).tuned = some 2400 := by decide +kernel

theorem witness_TheTransformIsTheKeystream : (List.replicate 192 (0 : Byte)).length = 192 ∧ 23 < 24 := by decide +kernel

/-- A cell passed on lanes OPEN and PREVIEW, one missed, and one at an OFF lane. -/
theorem witness_ACellIsPassedMissedOrNulled : watching.powered = true ∧
    (watching.lane 0).tuned = some (2301 : BitVec 12).toNat ∧ (watching.lane 0).state = .opened ∧
    (watching.lane 1).tuned = some (2302 : BitVec 12).toNat ∧ (watching.lane 1).state = .preview ∧
    (watching.entry 2301).map (·.keySlot) = some (some 3) ∧ (watching.half 3 .even).epoch ≠ 39 ∧
    (watching.lane 3).tuned ≠ some 2301 := by decide +kernel

/-- Both parities of slot 3: a LIVE half, and a STAGED one beside it. -/
theorem witness_AScrambledCellIsDecoded : (watching.entry 2301).map (·.keySlot) = some (some 3) ∧
    (watching.half 3 .even).state = .live ∧ (watching.half 3 .even).epoch = 40 ∧ (watching.half 3 .odd).state = .staged ∧
    (watching.half 3 .odd).epoch = 41 := by decide +kernel

theorem witness_ARatingCellSetsTheRating : watching.powered = true ∧
    (watching.lane 0).tuned = some (2301 : BitVec 12).toNat ∧ (watching.lane 0).state ≠ .off ∧
    (watching.lane 3).state = .off ∧ (ratingCompare ⟨15, 0, 0, 0⟩ (⟨14, 15, 15, 15⟩ : Rating)).any = true := by decide +kernel

/-- The suite with so many entries staged. -/
def staging (staging : Staging) (standby : List LineupEntry) : State :=
  { suite with lineup := { suite.lineup with staging := staging, standby := standby } }

theorem witness_StagingTakesALineup : suite.AddressedBy 412 ∧ suite.BroadcastBy 1023 ∧
    (film.layout).length = 18 ∧ (lineupEntryOf film.layout).service ≠ 0 ∧ TableOk table ∧ table.length < 384 ∧
    (lineupEntryOf (List.replicate 18 0)).service = 0 ∧ (staging (.filling 9) table).lineup.staging = .filling 9 ∧
    (staging (.overfull 9) table).lineup.staging = .overfull 9 ∧ suite.lineup.staging = .idle := by decide +kernel

/-- A full standby table, in order. -/
theorem witness_StagingTakesALineup_full :
    TableOk ((List.range 384).map (fun i => ⟨i + 1, false, none, ⟨0, 0, 0, 0⟩, .free⟩)) := by
  refine ⟨by simp [lineupCapacity], ?_, ?_⟩
  · exact List.pairwise_map.mpr (List.pairwise_lt_range.imp (fun h => by simpa using h))
  · intro e he
    obtain ⟨i, hi, rfl⟩ := List.mem_map.mp he
    have := List.mem_range.mp hi
    exact ⟨Nat.le_add_left 1 i, by dsimp only; omega, by simp, rfl⟩

theorem witness_ACommitChangesTheLineupWhole : suite.AddressedBy 412 ∧ 9 = max (9 : Byte).toNat 1 ∧
    (staging (.filling 9) table).lineup.standby.length = (0 : Byte).toNat * 256 + (5 : Byte).toNat ∧
    (staging (.filling 9) table).lineup.fault = false ∧ 9 ≠ max (0 : Byte).toNat 1 := by decide +kernel

theorem witness_APriceOrAKeyIsLoaded : suite.AddressedBy 412 ∧ 4294967295 ≤ 4294967295 ∧ (suite.half 3 .even).state = .live ∧
    suite.clock.isSet = true ∧ 1000 ≤ suite.clock.count ∧ (suite.half 3 .odd).state ≠ .live ∧ suite.clock.count < 1001 := by
  decide +kernel

theorem witness_ScreensAreShutRestoredAndReset : (watching.lane 1).state = .preview ∧
    ((watching.lane 1).tuned.bind watching.entry).map (·.terms.code) = some 2 ∧ watching.AddressedBy 412 ∧ watching.BroadcastBy 1023 ∧
    (0xFF : Byte).getLsbD (3 : Screen).val = true ∧ (watching.lane 0).tuned.isSome := by decide +kernel

/-- The suite with a stay that a CHECK_IN may open: VACANT, and under another session. -/
theorem witness_ACheckInOpensAStay :
    (CheckIn.layout ⟨502, suite.room.terms, some 4721, ⟨15, 15, 15, 15⟩⟩).length = 34 ∧
    (checkInOf (CheckIn.layout ⟨502, suite.room.terms, some 4721, ⟨15, 15, 15, 15⟩⟩)).session ≠ suite.room.session ∧
    (checkInOf (CheckIn.layout ⟨502, suite.room.terms, some 4721, ⟨15, 15, 15, 15⟩⟩)).session ≠ 0 ∧
    watching.VacancyOk ∧ watching.AddressedBy 412 ∧
    ({ State.reset with room := { State.reset.room with address := 412 } } : State).room.occupancy ≠ .occupied := by
  decide +kernel

theorem witness_AStayIsRefreshed : suite.AddressedBy 412 ∧ (StayTerms.layout suite.room.terms).length = 26 ∧
    suite.room.occupancy = .occupied ∧
    (checkInOf (CheckIn.layout ⟨501, suite.room.terms, none, ⟨15, 15, 15, 15⟩⟩)).session = suite.room.session ∧
    suite.room.session ≠ 0 ∧ (checkInOf (List.replicate 34 0)).session = 0 ∧ State.reset.room.occupancy ≠ .occupied := by
  decide +kernel

theorem witness_ACheckOutClosesTheStay : watching.AddressedBy 412 ∧ watching.room.occupancy = .occupied ∧
    ((watching.lane 0).tuned.bind watching.entry).map (·.terms.code) = some 2 ∧ State.reset.room.occupancy ≠ .occupied := by
  decide +kernel

/-- A head of charge 70 in each state, a CREDIT head, and the numbers 70 and 69. -/
theorem witness_TheFolioCollectsConfirmsAndDeclines : watching.AddressedBy 412 ∧
    (charged .offered).charges.entries.map (fun e => (e.number, e.state, e.kind)) = [(70, .offered, .charge)] ∧
    (∀ e ∈ (charged .offered).charges.entries, e.number ≠ (0 : Byte).toNat * 256 + (69 : Byte).toNat) ∧
    (charged .waiting).charges.entries.map (·.state) = [.waiting] ∧
    (⟨.credit 70, 71, 501, 2301, 1681, 1250, 900, .offered⟩ : QueueEntry).kind = .credit 70 := by decide +kernel

theorem witness_ADeclinedChargeIsSettled : (charged .declined).SeatsOk ∧ (charged .declined).AddressedBy 412 ∧
    (charged .declined).charges.entries.map (fun e => (e.number, e.state)) = [(70, .declined)] ∧
    (charged .declined).room.Ok ∧
    ((charged .declined).rentals.filterMap (·.charge)).Nodup ∧
    (∀ e ∈ (charged .offered).charges.entries.head?.toList, e.number ≠ 70 ∨ e.state ≠ .declined) :=
  ⟨watching_seatsOk, by decide +kernel⟩

theorem witness_ReadingChangesNothing : watching.Ready ∧ (3 : Byte).toNat = (3 : Screen).val ∧
    (watching.lineup.active.find? (fun e => e.service == (0x08 : Byte).toNat * 256 + (0xFD : Byte).toNat)).isSome = true ∧
    (0x08 : Byte).toNat < 16 ∧ (∀ e ∈ watching.lineup.active, e.service ≠ 0) := by decide +kernel

theorem witness_ALaneIsTunedAndUntuned : watching.Ready ∧ (0 : Byte).toNat = (0 : Screen).val ∧ 1 ≤ 4095 ∧ 4095 ≤ 4095 := by
  decide +kernel

theorem witness_ATuneIsAdmittedByTheOrderedChecks : watching.Ready ∧ (watching.lane 2).standing = .none ∧
    (watching.rentals.map (·.service)).Nodup ∧ (∀ r ∈ watching.rentals, 2 ∉ r.seats ∧ 2 ∉ r.waiting) := by decide +kernel

/-- The film's rental full at one seat, with screens 2 and 3 waiting behind screen 0. -/
def crowded : State :=
  { (watching.setLane 2 ⟨some 2301, .blank .seatWait, false, ⟨10, 6, 6, 3⟩, false, none, .waiting⟩).setLane 3
      ⟨some 2301, .blank .seatWait, false, ⟨10, 6, 6, 3⟩, false, none, .waiting⟩ with
    rentals := [⟨0, 2301, .film, 501, some 70, 1681, false, false, 900, 87300, 1, 10, 0, [0], [2, 3]⟩] }

theorem crowded_seatsOk : crowded.SeatsOk := by
  refine ⟨?_, ?_, ?_, ?_⟩ <;> decide +kernel

/-- A holder with waiters behind it, and one with none. -/
theorem witness_ALaneIsTunedAndUntuned_seat : crowded.Ready ∧ crowded.SeatsOk ∧
    crowded.rentals.map (fun r => (r.service, r.seats, r.waiting)) = [(2301, [0], [2, 3])] ∧
    (crowded.lane 2).shutdown = false ∧ crowded.room.occupancy = .occupied ∧
    (ratingCompare (crowded.lane 2).rating (crowded.ceiling 2)).any = false ∧
    (crowded.entry 2301).map (fun e => (e.adult, e.terms.code)) = some (false, 2) ∧
    watching.rentals.map (fun r => (r.seats, r.waiting)) = [([0], [])] :=
  ⟨by decide +kernel, crowded_seatsOk, by decide +kernel⟩

/-- R55: the seat of an untuned screen goes to the oldest waiter. -/
theorem test_seat_is_handed_on : (after (.untune 1 [0]) crowded).rentals.map (fun r => (r.seats, r.waiting)) = [([2], [3])] ∧
    ((after (.untune 1 [0]) crowded).lane 2).state = .opened := by decide +kernel

/-- With no PIN, and with the right one. -/
theorem witness_ScreensAreUnlockedRelockedAndLimited : watching.Ready ∧ watching.PinMet (carriedPin [] 0) ∧
    (pinned 2).PinMet (carriedPin (beBytes 2 4721) 0) ∧ (beBytes 2 4721).length = 2 ∧
    (watching.lane 0).tuned = some 2301 := by decide +kernel

theorem witness_ThePinIsChanged : (pinned 3).AddressedBy 412 ∧ (pinned 2).Ready ∧
    (pinned 2).PinMet (carriedPin (beBytes 2 4721) 0) ∧ (pinned 2).link.modes.pin = .every := by decide +kernel

/-- In a lockout, and at the attempt that begins one. -/
theorem witness_AFailedPinAttemptCounts : (pinned 3).Ready ∧ (pinned 3).lock.pin = some 4721 ∧ (pinned 3).lock.Ok ∧
    (pinned 3).lock.lockout = true ∧ (pinned 2).lock.Ok ∧ (pinned 2).lock.lockout = false ∧ (pinned 2).lock.failures = 2 ∧
    ((pinned 2).lane 0).tuned.isSome ∧ min ((0 : Byte).toNat * 256 + (1 : Byte).toNat) 9999 ≠ 4721 := by decide +kernel

/-- The second purchase of the night: film 2302 at 1,940, rental 1. -/
theorem witness_APurchaseIsAccepted : watching.Ready ∧ watching.room.occupancy = .occupied ∧ watching.clock.isSet = true ∧
    (watching.entry 2302).map (fun e => (e.terms, e.adult)) = some (.film 5 300, false) ∧
    (∀ r ∈ watching.rentals, r.service ≠ 2302) ∧ (watching.prices.get 5).loaded = true ∧
    (∀ x ∈ watching.charges.entries.head?.toList, x.state ≠ .declined) ∧
    (watching.room.history.filter (fun t => decide (watching.clock.count < t + watching.room.terms.rateWindow))).length <
      watching.room.terms.rateCount ∧
    watching.PinMet (carriedPin [] 0) ∧ 1940 = chargeAmount (watching.prices.get 5).base watching.room.terms.rateFactor
      watching.room.terms.tax watching.room.terms.cap watching.room.billed ∧
    watching.charges.entries.length < 8 ∧ watching.room.spend + 1940 ≤ watching.room.terms.spendLimit ∧
    watching.rentals.length < 8 ∧ (∀ r ∈ watching.rentals, r.index ≠ 1) ∧
    (∀ j : Fin 8, j < 1 → ∃ r ∈ watching.rentals, r.index = j) := by decide +kernel

/-- An event on sale 1,800 seconds before its start, and up to its last second; and no PIN carried where none is asked for. -/
theorem witness_APurchaseIsAccepted_event : (watching.entry 2400).map (·.terms) = some (.event 5 0 2000 5000) ∧
    2000 ≤ (atTime 200 watching).clock.count + 1800 ∧ (atTime 4999 watching).clock.count < 5000 ∧
    carriedPin [] 0 = none ∧ (pinned 0).room.terms.pinOnPurchase = false ∧
    (pinned 0).locked 1 2302 (watching.lane 1).rating false = false := by decide +kernel

/-- A purchase of a service that is not in the line-up, and a cancel of an index without a rental. -/
theorem witness_ARefusalChangesOnlyThePinRecord : watching.Ready ∧
    (after (.purchase 1 (0 :: beBytes 2 13)) watching).link.tx = .sending ⟨7, 1, .unknownService, .none⟩ ∧
    (after (.cancelRental 1 [7]) watching).link.tx = .sending ⟨8, 1, .noRental, .none⟩ ∧
    (watching.charges.entries.map (·.number)).Nodup ∧ (watching.rentals.map (·.index)).Nodup := by decide +kernel

/-- A purchase taken and one refused, a cancel by withdrawal and one by a CREDIT. -/
theorem witness_TheChargeQueueNeverOverfills : watching.Ready ∧ watching.charges.entries.length ≤ 12 ∧
    (after (.purchase 1 (1 :: beBytes 2 2302)) watching).link.tx =
      .sending ⟨7, 1, .ok, .purchase 1 1940 false (some 71) 87400⟩ ∧
    (after (.purchase 1 (0 :: beBytes 2 13)) watching).link.tx = .sending ⟨7, 1, .unknownService, .none⟩ ∧
    (after (.cancelRental 1 [0]) watching).link.tx = .sending ⟨8, 1, .ok, .cancel 2301 1681 none⟩ ∧
    (after (.cancelRental 1 [0]) (charged .offered)).link.tx = .sending ⟨8, 1, .ok, .cancel 2301 1681 (some 71)⟩ := by
  decide +kernel

theorem witness_ACancelEndsTheRental : watching.SeatsOk ∧ watching.Ready ∧
    watching.rentals.map (fun r => (r.session, r.viewed / 60, r.grace)) = [(watching.room.session, 0, 10)] ∧
    watching.PinMet (carriedPin [] 0) ∧ watching.charges.entries.map (·.state) = [.waiting] ∧
    (watching.charges.entries.map (·.number)).Nodup ∧ watching.charges.entries.length < 12 :=
  ⟨watching_seatsOk, by decide +kernel⟩

theorem witness_TheInterfaceServesTheHost : watching.Ready ∧ (List.replicate 9 (3 : Byte)).length = 9 ∧
    State.reset.room.occupancy = .vacant ∧ watching.room.occupancy ≠ .vacant := by decide +kernel

theorem witness_AmountsAndNumbersStayInBounds : 65535 ≤ 65535 ∧ watching.charges.entries.length ≤ 12 ∧
    watching.rentals.length ≤ 8 ∧ 1 ≤ watching.charges.next ∧ watching.charges.next ≤ 65535 := by decide +kernel

/-- A pair that waits and one that does not, under each mode. -/
theorem witness_ANoticeIsFiledOrCoalesced : (State.reset.link.notices.map (·.pair)) = [.start] ∧
    State.reset.link.modes.of .room = .every ∧ State.reset.link.armed.get 6 = true := by decide +kernel

theorem witness_BodiesDecodeToWhatTheyEncode : (∀ e ∈ table, e.Ok) ∧ (suite.prices.get 4).Ok ∧
    (suite.prices.get 4).loaded = true ∧ suite.room.terms.Ok ∧ suite.room.terms.cap ≤ 999999 ∧
    Rating.Ok ⟨15, 15, 15, 15⟩ := by decide +kernel

end Sys2Proof.Tests
end

section
/-! SUPPORT. A command frame that may be broadcast, from its first start bit to its reply: what hearing it leaves, what its
owner leaves, and what the line does when the owner is done (R166 to R170). -/

namespace Sys2Proof.Machine

/-! ### Hearing -/

@[simp] theorem State.hearFrame_lineup (s : State) : s.hearFrame.lineup = s.lineup := by
  rw [s.hearFrame_eq]

@[simp] theorem State.hearFrame_latched (s : State) : s.hearFrame.line.latched = s.line.latched := by
  rw [s.hearFrame_eq]

@[simp] theorem State.hearFrame_reply (s : State) : s.hearFrame.line.reply = .none := by
  rw [s.hearFrame_eq]

theorem State.hearFrame_heard (s : State) : Heard s.hearFrame := by
  rw [s.hearFrame_eq]
  exact ⟨rfl, rfl, rfl⟩

/-! ### The reply -/

/-- The hold as the usual reply shows it: the queue's head is DECLINED (R156, R172). -/
theorem State.held_eq (s : State) : s.held = s.charges.entries.head?.any (fun e => e.state == .declined) := by
  unfold State.held State.heldHead State.queueHead
  cases s.charges.entries.head? with
  | none => rfl
  | some e => by_cases declined : e.state = .declined <;> simp [declined]

/-- Every reply but COLLECT's is the usual one, with no entry (R171, R173). -/
theorem State.replyTo_eq_usualReply (s : State) (address : BitVec 10) {kind : PlKind} (h : kind ≠ .collect)
    (answer : FolioAnswer) : s.replyTo address.toNat kind answer = usualReply s address answer none := by
  have attention : (!s.charges.entries.isEmpty) = decide (0 < s.charges.entries.length) := by
    cases s.charges.entries <;> simp
  simp [State.replyTo, usualReply, h, attention, s.held_eq, State.queueLength]

/-! ### The end of a command -/

/-- What the line does once the owner of a command is done: a broadcast latches BROADCAST_SEEN, an addressed command has its
reply built (R168, steps 5 and 6). -/
def State.endCommand (s : State) (address : BitVec 10) (kind : PlKind) : State :=
  if address.toNat = 1023 then s.latchBroadcastSeen else s.buildReply address.toNat kind .none

/-- A command that may be broadcast, of the right length, is heard, acted on and ended, whichever way it came (R168). -/
theorem State.plCommand_eq_endCommand {s u : State} {address : BitVec 10} (h : s.AddressedBy address ∨ s.BroadcastBy address)
    {kind : PlKind} (may : kind.mayBroadcast = true) {body : List Byte} (len : body.length = kind.bodyLength)
    {order : List ClockTask} (acts : s.hearFrame.plAct kind body order = (u, .none)) :
    s.plCommand kind address body order = u.endCommand address kind := by
  rcases h with here | all
  · have notBroadcast : address.toNat ≠ 1023 := by
      obtain ⟨-, -, -, high⟩ := here
      omega
    rw [State.plCommand_addressed here, State.takeAddressed, if_pos len, acts, State.endCommand, if_neg notBroadcast]
  · have broadcast : address.toNat = 1023 := all.2
    rw [State.plCommand_broadcast all, State.takeBroadcast, if_pos ⟨may, len⟩, acts, State.endCommand,
      if_pos broadcast]

/-- The end of a command writes the latched flags and the reply alone. -/
theorem State.endCommand_eq (s : State) (address : BitVec 10) (kind : PlKind) :
    s.endCommand address kind = { s with
      line := { s.line with
        latched := flagsAfter s.line.latched address, reply := (s.endCommand address kind).line.reply } } := by
  unfold State.endCommand flagsAfter
  split <;> rfl

@[simp] theorem State.endCommand_latched (s : State) (address : BitVec 10) (kind : PlKind) :
    (s.endCommand address kind).line.latched = flagsAfter s.line.latched address := by
  rw [s.endCommand_eq]

/-- A command that leaves the line heard and without a reply has been taken (R168, R170). -/
theorem State.endCommand_took {s : State} (heard : Heard s) (silent : s.line.reply = .none) (address : BitVec 10)
    {kind : PlKind} (h : kind ≠ .collect) : Took (s.endCommand address kind) address := by
  refine ⟨?_, ?_⟩
  · rw [s.endCommand_eq]
    exact heard
  · unfold State.endCommand
    split
    · exact silent
    · show ReplyPhase.built (s.replyTo address.toNat kind .none) = _
      rw [s.replyTo_eq_usualReply address h]
      rfl

/-! ### Commands of the line-up -/

/-- From s to u only the line-up and the latched flags differ. -/
abbrev OnlyStages (s u : State) : Prop :=
  u = { s with lineup := u.lineup, line := { s.line with latched := u.line.latched } }

/-- A command whose owner writes the line-up and the latched flags alone: it is taken, and it leaves the line-up and the flags
of its owner, and of the media link what hearing it left. -/
theorem State.plCommand_of_onlyStages {s u : State} {address : BitVec 10}
    (h : s.AddressedBy address ∨ s.BroadcastBy address) {kind : PlKind} (may : kind.mayBroadcast = true)
    {body : List Byte} (len : body.length = kind.bodyLength) {order : List ClockTask}
    (acts : s.hearFrame.plAct kind body order = (u, .none)) (only : OnlyStages s.hearFrame u) :
    ∃ t, s.plCommand kind address body order = t ∧ Took t address ∧ HeardLink s t ∧
      t.line.latched = flagsAfter u.line.latched address ∧
      t = { s with lineup := u.lineup, line := t.line, link := t.link } := by
  have ended := State.plCommand_eq_endCommand h may len acts
  have notCollect : kind ≠ .collect := by
    rintro rfl
    cases may
  have heard : Heard u := by
    rw [only]
    exact s.hearFrame_heard
  have silent : u.line.reply = .none := by
    rw [only]
    exact s.hearFrame_reply
  have link : (u.endCommand address kind).link = s.hearFrame.link := by
    rw [u.endCommand_eq, only]
  refine ⟨u.endCommand address kind, ended, State.endCommand_took heard silent address notCollect, ⟨?_, ?_⟩,
    u.endCommand_latched address kind, ?_⟩
  · rw [OnlyNotices, link]
    exact s.hearFrame_onlyNotices
  · intro up
    rw [link, State.hearFrame_link_of_up up]
  · rw [u.endCommand_eq, only, s.hearFrame_eq]

end Sys2Proof.Machine
end

section
/-! SUPPORT. The standby table and its staging: the place of an entry in a table kept in order (R6, R7), what an ENTRY
leaves in each staging state (R6 to R9), and that an entry received is within its ranges (R8, R198). -/

namespace Sys2Proof.Machine

/-! ### An entry in its place -/

/-- A table in order holds, after an entry is put in its place, that entry and those of the other services (R6). -/
theorem mem_insertEntry {e x : LineupEntry} {table : List LineupEntry}
    (ordered : table.Pairwise (fun a b => a.service < b.service)) :
    x ∈ insertEntry e table ↔ x = e ∨ (x ∈ table ∧ x.service ≠ e.service) := by
  induction table with
  | nil => simp [insertEntry]
  | cons y ys ih =>
    obtain ⟨above, rest⟩ := List.pairwise_cons.mp ordered
    rw [insertEntry]
    split
    case isTrue before =>
      have absent : ∀ z ∈ y :: ys, z.service ≠ e.service := by
        intro z hz
        rcases List.mem_cons.mp hz with rfl | later
        · exact before.ne'
        · exact (before.trans (above z later)).ne'
      rw [List.mem_cons]
      exact or_congr_right ⟨fun hx => ⟨hx, absent x hx⟩, And.left⟩
    case isFalse notBefore =>
      split
      case isTrue same =>
        have absent : ∀ z ∈ ys, z.service ≠ e.service := fun z later => same ▸ (above z later).ne'
        grind
      case isFalse other =>
        rw [List.mem_cons, List.mem_cons, ih rest]
        grind

/-- An entry put in its place keeps the order (R6). -/
theorem pairwise_insertEntry (e : LineupEntry) {table : List LineupEntry}
    (ordered : table.Pairwise (fun a b => a.service < b.service)) :
    (insertEntry e table).Pairwise (fun a b => a.service < b.service) := by
  induction table with
  | nil => simp [insertEntry]
  | cons y ys ih =>
    obtain ⟨above, rest⟩ := List.pairwise_cons.mp ordered
    rw [insertEntry]
    split
    case isTrue before =>
      refine List.pairwise_cons.mpr ⟨fun x hx => ?_, ordered⟩
      rcases List.mem_cons.mp hx with rfl | later
      · exact before
      · exact before.trans (above x later)
    case isFalse notBefore =>
      split
      case isTrue same => exact List.pairwise_cons.mpr ⟨fun x hx => same ▸ above x hx, rest⟩
      case isFalse other =>
        refine List.pairwise_cons.mpr ⟨fun x hx => ?_, ih rest⟩
        rcases (mem_insertEntry rest).mp hx with rfl | ⟨later, -⟩
        · omega
        · exact above x later

theorem length_insertEntry_le (e : LineupEntry) (table : List LineupEntry) :
    (insertEntry e table).length ≤ table.length + 1 := by
  induction table with
  | nil => simp [insertEntry]
  | cons y ys ih =>
    rw [insertEntry]
    split
    · simp
    · split
      · simp
      · simpa using ih

/-- An entry of a service that the table holds takes no further place (R6). -/
theorem length_insertEntry_of_mem {e : LineupEntry} {table : List LineupEntry}
    (ordered : table.Pairwise (fun a b => a.service < b.service)) (h : ∃ x ∈ table, x.service = e.service) :
    (insertEntry e table).length = table.length := by
  induction table with
  | nil => simp at h
  | cons y ys ih =>
    obtain ⟨above, rest⟩ := List.pairwise_cons.mp ordered
    obtain ⟨x, held, same⟩ := h
    rw [insertEntry]
    rcases List.mem_cons.mp held with rfl | later
    · simp [same]
    · have := above x later
      rw [if_neg (by omega), if_neg (by omega)]
      simpa using ih rest ⟨x, later, same⟩

/-- A service table with an entry in its place is a service table, where there is a place for it (R6, R7). -/
theorem TableOk.insertEntry {e : LineupEntry} {table : List LineupEntry} (h : TableOk table) (ok : e.Ok)
    (place : table.length < lineupCapacity ∨ ∃ x ∈ table, x.service = e.service) : TableOk (insertEntry e table) := by
  obtain ⟨fits, ordered, entries⟩ := h
  refine ⟨?_, pairwise_insertEntry e ordered, fun x hx => ?_⟩
  · rcases place with free | held
    · exact (length_insertEntry_le e table).trans free
    · rwa [length_insertEntry_of_mem ordered held]
  · rcases (mem_insertEntry ordered).mp hx with rfl | ⟨old, -⟩
    · exact ok
    · exact entries x old

/-! ### What an ENTRY does to the standby table -/

theorem entryIn_isNone {table : List LineupEntry} {service : Nat} :
    (entryIn table service).isNone = true ↔ ∀ x ∈ table, x.service ≠ service := by
  simp [entryIn]

/-- A full standby table without the entry's service passes to OVERFULL (R7). -/
theorem LineupTable.take_of_full {t : LineupTable} {e : LineupEntry} (full : lineupCapacity ≤ t.standby.length)
    (absent : ∀ x ∈ t.standby, x.service ≠ e.service) (generation : Nat) :
    t.take generation e = { t with staging := .overfull generation } :=
  if_pos ⟨entryIn_isNone.mpr absent, full⟩

/-- With a place free, or its service held, the entry is put in its place (R6). -/
theorem LineupTable.take_of_place {t : LineupTable} {e : LineupEntry}
    (place : t.standby.length < lineupCapacity ∨ ∃ x ∈ t.standby, x.service = e.service) (generation : Nat) :
    t.take generation e = { t with standby := insertEntry e t.standby } := by
  refine if_neg fun ⟨absent, full⟩ => ?_
  rcases place with free | ⟨x, held, same⟩
  · exact absurd free full.not_gt
  · exact entryIn_isNone.mp absent x held same

/-- The two faults for which R8 discards an entry. -/
theorem LineupEntry.discarded_iff (e : LineupEntry) :
    e.discarded = true ↔ e.service = 0 ∨ ∃ w ∈ e.terms.window, w.2 ≤ w.1 := by
  unfold LineupEntry.discarded
  cases e.terms <;> simp [Terms.window]

/-! ### BEGIN and ENTRY, by the staging state -/

variable {s : State}

theorem State.beginLineup_onlyStages (s : State) (generation : Nat) : OnlyStages s (s.beginLineup generation) := rfl

theorem State.stageEntry_of_idle (h : s.lineup.staging = .idle) (e : LineupEntry) :
    s.stageEntry e = s.latchMessageError := by
  rw [State.stageEntry, h]

theorem State.stageEntry_of_overfull {generation : Nat} (h : s.lineup.staging = .overfull generation) (e : LineupEntry) :
    s.stageEntry e = s := by
  rw [State.stageEntry, h]

theorem State.stageEntry_of_filling {generation : Nat} (h : s.lineup.staging = .filling generation) (e : LineupEntry) :
    s.stageEntry e = { s with
      lineup := if e.discarded then { s.lineup with fault := true } else s.lineup.take generation e } := by
  rw [State.stageEntry, h]
  dsimp only
  split <;> rfl

theorem State.stageEntry_onlyStages (s : State) (e : LineupEntry) : OnlyStages s (s.stageEntry e) := by
  cases staging : s.lineup.staging with
  | idle => rw [State.stageEntry_of_idle staging]; rfl
  | filling generation => rw [State.stageEntry_of_filling staging]
  | overfull generation => rw [State.stageEntry_of_overfull staging]

/-- Only an ENTRY in IDLE latches a flag (R9). -/
theorem State.stageEntry_latched (h : s.lineup.staging ≠ .idle) (e : LineupEntry) :
    (s.stageEntry e).line.latched = s.line.latched := by
  cases staging : s.lineup.staging with
  | idle => exact absurd staging h
  | filling generation => rw [State.stageEntry_of_filling staging]
  | overfull generation => rw [State.stageEntry_of_overfull staging]

/-! ### An entry received -/

theorem beNat_lt (bs : List Byte) : beNat bs < 256 ^ bs.length := by
  induction bs using List.reverseRecOn with
  | nil => simp [beNat]
  | append_singleton bs b ih =>
    have byte := b.isLt
    have last : beNat (bs ++ [b]) = beNat bs * 256 + b.toNat := by simp [beNat]
    rw [last, List.length_append, List.length_singleton, pow_succ]
    omega

/-- A field of `len` bytes is below 256 to the power `len`. -/
theorem field_lt (body : List Byte) (offset len : Nat) : field body offset len < 256 ^ len :=
  (beNat_lt _).trans_le (Nat.pow_le_pow_right (by decide) (List.length_take_le ..))

theorem serviceOf_le (v : Nat) : serviceOf v ≤ 4095 := by
  unfold serviceOf
  split <;> omega

theorem quadWord_ok (w : Nat) : (quadWord w).Ok := by
  have place (v : Nat) : v % 16 ≤ 15 := Nat.le_of_lt_succ (Nat.mod_lt v (by decide))
  exact ⟨place _, place _, place _, place _⟩

/-- An entry received of a service other than 0, and no EVENT that ends before it starts, is within its ranges (R8, R198). -/
theorem lineupEntryOf_ok {body : List Byte} (named : (lineupEntryOf body).service ≠ 0)
    (window : ∀ w ∈ (lineupEntryOf body).terms.window, w.1 < w.2) : (lineupEntryOf body).Ok := by
  have rating := quadWord_ok (field body 6 2)
  have service := serviceOf_le (field body 0 2)
  have stop := field_lt body 14 4
  unfold lineupEntryOf at *
  dsimp only at *
  generalize field body 2 1 = kind at *
  match kind with
  | 0 => exact ⟨Nat.pos_of_ne_zero named, service, rating, rfl⟩
  | 1 => exact ⟨Nat.pos_of_ne_zero named, service, rating, by simp [Terms.fits]⟩
  | 2 => exact ⟨Nat.pos_of_ne_zero named, service, rating, by simp [Terms.fits]⟩
  | 3 =>
    have later := window _ rfl
    refine ⟨Nat.pos_of_ne_zero named, service, rating, decide_eq_true ⟨Nat.min_le_right _ _, later, ?_⟩⟩
    exact Nat.le_of_lt_succ stop
  | _ + 4 => exact absurd rfl named

end Sys2Proof.Machine
end

section
/-! PROOFS. The line-up's staging: what BEGIN and ENTRY leave, whichever way they come (R5 to R9). -/

namespace Sys2Proof.Machine

/-- Taking an entry that has a place changes the standby table alone, and there the entries of its service alone (R6). -/
theorem LineupTable.take_replaces_service {t : LineupTable} {e : LineupEntry} (table : TableOk t.standby) (ok : e.Ok)
    (place : t.standby.length < 384 ∨ ∃ x ∈ t.standby, x.service = e.service) (generation : Nat) :
    t.take generation e = { t with standby := (t.take generation e).standby } ∧
    TableOk (t.take generation e).standby ∧ e ∈ (t.take generation e).standby ∧
    (∀ x ∈ t.standby, x.service ≠ e.service → x ∈ (t.take generation e).standby) ∧
    ∀ x ∈ (t.take generation e).standby, x = e ∨ (x ∈ t.standby ∧ x.service ≠ e.service) := by
  have ⟨_, ordered, _⟩ := table
  have member {x : LineupEntry} := mem_insertEntry (e := e) (x := x) ordered
  rw [LineupTable.take_of_place place]
  exact ⟨rfl, table.insertEntry ok place, member.mpr (.inl rfl), fun x held other => member.mpr (.inr ⟨held, other⟩),
    fun x => member.mp⟩

/-- A BEGIN does the same in every staging state (R5). -/
theorem State.exec_lineupBegin {s : State} {address : BitVec 10} (h : s.AddressedBy address ∨ s.BroadcastBy address)
    (g : Byte) :
    ∃ t, exec (.lineupBegin address [g]) s = .next t ∧ Took t address ∧ HeardLink s t ∧
      t.line.latched = flagsAfter s.line.latched address ∧
      t = { s with
        lineup := { s.lineup with standby := [], fault := false, staging := .filling (max g.toNat 1) }
        line := t.line, link := t.link } := by
  have generation : generationOf (field [g] 0 1) = max g.toNat 1 := by simp [generationOf, field, beNat]
  obtain ⟨t, done, took, link, latched, frame⟩ :=
    State.plCommand_of_onlyStages h (kind := .lineupBegin) rfl (body := [g]) rfl (order := []) rfl
      (s.hearFrame.beginLineup_onlyStages _)
  refine ⟨t, congrArg _ done, took, link, ?_, ?_⟩
  · simpa [State.beginLineup] using latched
  · simpa [State.beginLineup, generation] using frame

/-- An ENTRY leaves the line-up and the flags that `stageEntry` gives (R6 to R9). -/
theorem State.exec_lineupEntry {s : State} {address : BitVec 10} (h : s.AddressedBy address ∨ s.BroadcastBy address)
    {body : List Byte} (len : body.length = 18) :
    ∃ t, exec (.lineupEntry address body) s = .next t ∧ Took t address ∧ HeardLink s t ∧
      t.line.latched = flagsAfter (s.hearFrame.stageEntry (lineupEntryOf body)).line.latched address ∧
      t = { s with
        lineup := (s.hearFrame.stageEntry (lineupEntryOf body)).lineup, line := t.line, link := t.link } := by
  obtain ⟨t, done, parts⟩ :=
    State.plCommand_of_onlyStages h (kind := .lineupEntry) rfl len (order := []) rfl
      (s.hearFrame.stageEntry_onlyStages _)
  exact ⟨t, congrArg _ done, parts⟩

/-- Settles O38: `plCommand_of_onlyStages` gives the line's part of both commands, and the law of `stageEntry` for each staging
state the table's. -/
theorem stagingTakesALineup : Obligations.StagingTakesALineup := by
  intro s address g body staged h len
  refine ⟨State.exec_lineupBegin h g, ?_⟩
  obtain ⟨t, done, took, link, latched, frame⟩ := State.exec_lineupEntry h len
  have heardStaging : s.hearFrame.lineup.staging = s.lineup.staging := by rw [State.hearFrame_lineup]
  have lineup : t.lineup = (s.hearFrame.stageEntry (lineupEntryOf body)).lineup := by rw [frame]
  refine ⟨t, done, took, link, lineup ▸ frame, fun staging => ?_, fun idle => ?_, fun overfull => ?_, fun filling => ?_⟩
  · rw [latched, State.stageEntry_latched (heardStaging.trans_ne staging), State.hearFrame_latched]
  · rw [State.stageEntry_of_idle (heardStaging.trans idle)] at lineup latched
    exact ⟨by simpa [State.latchMessageError] using lineup, by simpa [State.latchMessageError, State.latch] using latched⟩
  · rw [lineup, State.stageEntry_of_overfull (heardStaging.trans overfull), State.hearFrame_lineup]
  · rw [State.stageEntry_of_filling (heardStaging.trans filling), State.hearFrame_lineup] at lineup
    refine ⟨fun discarded => ?_, fun named window table => ?_⟩
    · rw [lineup]
      exact if_pos ((LineupEntry.discarded_iff _).mpr discarded)
    · have kept : ¬ (lineupEntryOf body).discarded = true := by
        rw [LineupEntry.discarded_iff]
        rintro (zero | ⟨w, held, early⟩)
        · exact named zero
        · exact absurd (window w held) early.not_gt
      rw [lineup, if_neg kept]
      exact ⟨fun full absent => LineupTable.take_of_full full absent staged, fun place =>
        LineupTable.take_replaces_service table (lineupEntryOf_ok named window) place staged⟩

end Sys2Proof.Machine
end

section
/-! SUPPORT. Bytes and numbers under exclusive-or, and the keystream block by block (R36): output block j of a transform is
input block j exclusive-or block j of the keystream, and two exclusive-ors with one keystream undo each other. -/

namespace Sys2Proof.Machine

/-! ### Numbers and their bytes -/

theorem beNat_append_singleton (bs : List Byte) (b : Byte) : beNat (bs ++ [b]) = beNat bs * 256 + b.toNat := by
  simp [beNat]

@[simp] theorem length_beBytes (len n : Nat) : (beBytes len n).length = len := by
  induction len generalizing n with
  | zero => rfl
  | succ len ih => simp [beBytes, ih]

/-- The bytes of a number that they have room for give the number back. -/
theorem beNat_beBytes {len n : Nat} (fits : n < 256 ^ len) : beNat (beBytes len n) = n := by
  induction len generalizing n with
  | zero => exact (Nat.lt_one_iff.mp fits).symm
  | succ len ih =>
    have high : n / 256 < 256 ^ len := Nat.div_lt_of_lt_mul (by rwa [mul_comm, ← pow_succ])
    rw [beBytes, beNat_append_singleton, ih high, BitVec.toNat_ofNat, Nat.div_add_mod']

/-! ### Exclusive-or of bytes and of numbers -/

/-- A byte below a number: exclusive-or takes the two parts apart. -/
theorem xor_mul_add_byte (m n : Nat) (a b : Byte) :
    (m ^^^ n) * 256 + (a ^^^ b).toNat = (m * 256 + a.toNat) ^^^ (n * 256 + b.toNat) := by
  have high (k : Nat) (c : Byte) : (k * 256 + c.toNat) / 2 ^ 8 = k := by have := c.isLt; omega
  have low (k : Nat) (c : Byte) : (k * 256 + c.toNat) % 2 ^ 8 = c.toNat := by have := c.isLt; omega
  rw [← Nat.div_add_mod' ((m * 256 + a.toNat) ^^^ (n * 256 + b.toNat)) (2 ^ 8), Nat.xor_div_two_pow, Nat.xor_mod_two_pow,
    high, high, low, low, BitVec.toNat_xor, show 2 ^ 8 = 256 from rfl]

theorem beNat_zipWith_xor {as bs : List Byte} (same : as.length = bs.length) :
    beNat (List.zipWith (· ^^^ ·) as bs) = beNat as ^^^ beNat bs := by
  induction as using List.reverseRecOn generalizing bs with
  | nil => simp [List.length_eq_zero_iff.mp same.symm, beNat]
  | append_singleton as a ih =>
    rcases List.eq_nil_or_concat' bs with rfl | ⟨bs, b, rfl⟩
    · simp at same
    · have shorter : as.length = bs.length := by simpa using same
      rw [List.zipWith_append shorter, List.zipWith_cons_cons, List.zipWith_nil_left, beNat_append_singleton,
        beNat_append_singleton, beNat_append_singleton, ih shorter, xor_mul_add_byte]

/-- A field of an exclusive-or is the exclusive-or of the fields. -/
theorem field_zipWith_xor {as bs : List Byte} (same : as.length = bs.length) (offset len : Nat) :
    field (List.zipWith (· ^^^ ·) as bs) offset len = field as offset len ^^^ field bs offset len := by
  rw [field, List.drop_zipWith, List.take_zipWith]
  exact beNat_zipWith_xor (by simp [same])

/-- A run of bytes as long as a key is undone by it. -/
theorem zipWith_xor_cancel {as key : List Byte} (covered : as.length ≤ key.length) :
    List.zipWith (· ^^^ ·) (List.zipWith (· ^^^ ·) as key) key = as := by
  induction as generalizing key with
  | nil => rfl
  | cons a as ih =>
    cases key with
    | nil => simp at covered
    | cons k key =>
      rw [List.zipWith_cons_cons, List.zipWith_cons_cons, ih (by simpa using covered), BitVec.xor_assoc, BitVec.xor_self,
        BitVec.xor_zero]

/-! ### The keystream -/

@[simp] theorem length_keystream (blocks : Nat) (x : ControlWord) : (keystream blocks x).length = 8 * blocks := by
  induction blocks generalizing x with
  | zero => rfl
  | succ blocks ih =>
    rw [keystream, List.length_append, length_beBytes, ih]
    omega

/-- The step of the keystream by numbers, as R36 writes its constants. -/
theorem keyStep_eq_ofNat (x : ControlWord) :
    keyStep x = BitVec.ofNat 64 (x.toNat * 0x9C6B3A5D21E74F15 + 0x3B1D7E290A56C4E7) := by
  rw [keyStep, BitVec.ofNat_add, BitVec.ofNat_mul, BitVec.ofNat_toNat, BitVec.setWidth_eq]

theorem keySeed_eq_ofNat (word : ControlWord) (continuity : BitVec 4) :
    keySeed word continuity = word ^^^ BitVec.ofNat 64 (continuity.toNat * 0x0101010101010101) := by
  rw [keySeed, BitVec.ofNat_mul, BitVec.ofNat_toNat]

/-- Block j of the keystream after x 0 is x (j + 1), for the sequence x of its states (R36). -/
theorem field_keystream {x : Nat → ControlWord} (steps : ∀ i, x (i + 1) = keyStep (x i)) {blocks j : Nat} (within : j < blocks) :
    field (keystream blocks (x 0)) (8 * j) 8 = (x (j + 1)).toNat := by
  induction blocks generalizing x j with
  | zero => exact absurd within j.not_lt_zero
  | succ blocks ih =>
    have first : (beBytes 8 (x 1).toNat).length = 8 := length_beBytes ..
    rw [keystream, ← steps 0]
    cases j with
    | zero =>
      rw [field, Nat.mul_zero, List.drop_zero, List.take_left' first]
      exact beNat_beBytes (x 1).isLt
    | succ j =>
      rw [field, Nat.mul_succ, Nat.add_comm, ← List.drop_drop, List.drop_left' first]
      exact ih (x := fun i => x (i + 1)) (fun i => steps (i + 1)) (Nat.lt_of_succ_lt_succ within)

end Sys2Proof.Machine
end

section
/-! PROOFS. The descrambling transform (R36). -/

namespace Sys2Proof.Machine

/-- Settles O34: `field_keystream` gives each block of the keystream, `field_zipWith_xor` each block of the output, and
`zipWith_xor_cancel` the involution. -/
theorem theTransformIsTheKeystream : Obligations.TheTransformIsTheKeystream := by
  refine ⟨fun word continuity payload x j len seed steps within => ?_, fun word continuity payload len => ?_⟩
  · have covered : payload.length = (keystream 24 (x 0)).length := by rw [len, length_keystream]
    have block : field (keystream 24 (x 0)) (8 * j) 8 = (x (j + 1)).toNat :=
      field_keystream (fun i => (steps i).trans (keyStep_eq_ofNat _).symm) within
    have fits : field payload (8 * j) 8 < 2 ^ 64 := field_lt ..
    rw [transform, keySeed_eq_ofNat, ← seed]
    refine ⟨by rw [List.length_zipWith, ← covered, len, Nat.min_self], ?_⟩
    rw [field_zipWith_xor covered, block, BitVec.toNat_xor, BitVec.toNat_ofNat, Nat.mod_eq_of_lt fits]
  · exact zipWith_xor_cancel (len.trans_eq (length_keystream 24 _).symm)

end Sys2Proof.Machine
end

section
/-! SUPPORT. A cell at a lane: when the lane shows the cell's service (R29, R30, R32), what a change of the key-miss flag writes
and reports (R34, R61), and what a cell leaves in each case (R30 to R32). -/

namespace Sys2Proof.Machine

variable {s : State} {n : Screen}

/-! ### The lanes a cell is shown on -/

theorem LaneState.shows_iff (state : LaneState) : state.shows = true ↔ state = .opened ∨ state = .preview := by
  cases state <;> simp [LaneState.shows]

/-- A lane shows a service when it is tuned to it and OPEN or in PREVIEW (R30, R32). -/
abbrev Lane.ShowsService (l : Lane) (service : BitVec 12) : Prop :=
  l.tuned = some service.toNat ∧ (l.state = .opened ∨ l.state = .preview)

/-- The model's two tests of a cell together (R29, R30). -/
theorem Lane.takes_and_shows_iff (l : Lane) (service : BitVec 12) :
    (l.takes service = true ∧ l.state.shows = true) ↔ l.ShowsService service := by
  rw [LaneState.shows_iff]
  refine and_congr_left fun shown => ?_
  have on : l.state ≠ .off := by
    intro off
    simp [off] at shown
  simp [Lane.takes, on]

/-! ### Notices -/

/-- A notice raised where its kind's mode files it waits with its snapshot, coalesced or new (R189, R191). -/
theorem State.raise_shows {p : NoticePair} {v : Snapshot} {fault : Bool} (files : s.link.files p fault = true) :
    Shows (s.raise p v fault) p v := by
  show ∃ x ∈ s.link.noticesAfter p v fault, x.pair = p ∧ x.snapshot = v
  rw [MediaLink.noticesAfter]
  by_cases queued : s.link.notices.any (fun x => x.pair = p) = true
  · rw [if_pos queued]
    obtain ⟨x, waits, same⟩ := List.any_eq_true.mp queued
    have pair : x.pair = p := of_decide_eq_true same
    have coalesced : x.coalesce p v = { x with snapshot := v, raises := min (x.raises + 1) maxRaises } := if_pos pair
    exact ⟨x.coalesce p v, List.mem_map_of_mem waits, by rw [coalesced, pair], by rw [coalesced]⟩
  · rw [if_neg queued, if_pos files]
    exact ⟨⟨p, v, 1⟩, List.mem_append_right _ (List.mem_singleton_self _), rfl, rfl⟩

/-- A fault is filed under EVERY and under FAULT_ONLY (R191). -/
theorem MediaLink.files_fault {l : MediaLink} {p : NoticePair} (mode : l.modes.of p ∈ [.every, .faultOnly]) :
    l.files p true = true := by
  rw [MediaLink.files]
  rcases List.mem_pair.mp mode with every | faultOnly
  · rw [every]
  · rw [faultOnly]

/-! ### The key-miss flag -/

theorem State.setKeyMiss_of_eq {miss : Bool} (h : (s.lane n).keyMiss = miss) : s.setKeyMiss n miss = s := if_pos h

theorem State.setKeyMiss_of_ne {miss : Bool} (h : (s.lane n).keyMiss ≠ miss) :
    s.setKeyMiss n miss = (s.setLane n { s.lane n with keyMiss := miss }).raiseLane n miss := if_neg h

/-- A key-miss flag's change writes lanes and notices alone (R34). -/
theorem State.setKeyMiss_frame (s : State) (n : Screen) (miss : Bool) :
    s.setKeyMiss n miss = { s with lanes := (s.setKeyMiss n miss).lanes, link := (s.setKeyMiss n miss).link } ∧
      OnlyNotices s (s.setKeyMiss n miss) := by
  by_cases h : (s.lane n).keyMiss = miss
  · rw [State.setKeyMiss_of_eq h]
    exact ⟨rfl, rfl⟩
  · rw [State.setKeyMiss_of_ne h]
    exact ⟨rfl, rfl⟩

@[simp] theorem State.lane_setKeyMiss_self (s : State) (n : Screen) (miss : Bool) :
    (s.setKeyMiss n miss).lane n = { s.lane n with keyMiss := miss } := by
  by_cases h : (s.lane n).keyMiss = miss
  · rw [State.setKeyMiss_of_eq h, ← h]
  · rw [State.setKeyMiss_of_ne h, State.raiseLane, State.lane_raise, State.lane_setLane_self]

@[simp] theorem State.lane_setKeyMiss_ne (s : State) {n m : Screen} (h : m ≠ n) (miss : Bool) :
    (s.setKeyMiss n miss).lane m = s.lane m := by
  by_cases same : (s.lane n).keyMiss = miss
  · rw [State.setKeyMiss_of_eq same]
  · rw [State.setKeyMiss_of_ne same, State.raiseLane, State.lane_raise, State.lane_setLane_ne s h]

@[simp] theorem State.out_setKeyMiss (s : State) (n m : Screen) (miss : Bool) : (s.setKeyMiss n miss).out m = s.out m := by
  rw [State.out, (s.setKeyMiss_frame n miss).1]
  rfl

@[simp] theorem State.lane_place (s : State) (n m : Screen) (c : Cell) : (s.place n c).lane m = s.lane m := rfl

/-- A key-miss flag that goes from clear to set is a fault, reported with the lane as it then is (R34, R61). -/
theorem State.setKeyMiss_shows (clear : (s.lane n).keyMiss = false) (mode : s.link.modes.lane ∈ [.every, .faultOnly]) :
    Shows (s.setKeyMiss n true) (.lane n) (.lane ((s.setKeyMiss n true).laneView n)) := by
  rw [State.setKeyMiss_of_ne (by rw [clear]; decide)]
  exact State.raise_shows (MediaLink.files_fault mode)

/-- A flag changed and a cell placed: lanes, outputs and notices alone are written, of lane n and output n (R30, R32, R34). -/
theorem State.setKeyMiss_place_frame (s : State) (n : Screen) (miss : Bool) (c : Cell) :
    OnlyNotices s ((s.setKeyMiss n miss).place n c) ∧
      (s.setKeyMiss n miss).place n c = { s with
        lanes := ((s.setKeyMiss n miss).place n c).lanes, outs := ((s.setKeyMiss n miss).place n c).outs
        link := ((s.setKeyMiss n miss).place n c).link } := by
  obtain ⟨frame, notices⟩ := s.setKeyMiss_frame n miss
  refine ⟨notices, ?_⟩
  rw [State.place, frame]

/-! ### The half a scrambled cell asks for -/

/-- No half is found where the service has no slot, or the half of its slot is EMPTY or of another epoch (R32). -/
theorem State.keyFor_eq_none {service : Nat} {p : Parity} {epoch : BitVec 6}
    (unusable : ∀ e ∈ s.entry service, ∀ slot ∈ e.keySlot, (s.half slot p).state = .empty ∨ (s.half slot p).epoch ≠ epoch) :
    s.keyFor service p epoch = none := by
  rw [State.keyFor]
  cases slot : (s.entry service).bind (·.keySlot) with
  | none => rfl
  | some k =>
    obtain ⟨e, entry, named⟩ := Option.bind_eq_some_iff.mp slot
    exact if_pos (unusable e entry k named)

/-! ### A cell, case by case -/

section
variable {c : Cell}

theorem State.clearCellAt_passed (h : (s.lane n).ShowsService c.service) :
    s.clearCellAt n c = (s.setKeyMiss n false).place n c :=
  if_pos (((s.lane n).takes_and_shows_iff c.service).mpr h)

theorem State.clearCellAt_nulled (h : ¬(s.lane n).ShowsService c.service) :
    s.clearCellAt n c = s.place n nullCell :=
  if_neg (((s.lane n).takes_and_shows_iff c.service).not.mpr h)

theorem State.scrambledCellAt_missed {p : Parity} (h : (s.lane n).ShowsService c.service)
    (noKey : s.keyFor c.service.toNat p c.epoch = none) :
    s.scrambledCellAt n p c = (s.setKeyMiss n true).place n nullCell := by
  rw [State.scrambledCellAt, if_pos (((s.lane n).takes_and_shows_iff c.service).mpr h), noKey]

theorem State.scrambledCellAt_nulled {p : Parity} (h : ¬(s.lane n).ShowsService c.service) :
    s.scrambledCellAt n p c = s.place n nullCell :=
  if_neg (((s.lane n).takes_and_shows_iff c.service).not.mpr h)

end

/-- A CLEAR cell at a part with its supply (R30). -/
theorem exec_clearCell (powered : s.powered = true) (n : Screen) (service : BitVec 12) (continuity : BitVec 4)
    (epoch : BitVec 6) (payload : List Byte) :
    exec (.clearCell n service continuity epoch payload) s =
      .next (s.clearCellAt n ⟨service, .clear, continuity, epoch, payload⟩) :=
  congrArg _ (State.ifPowered_of_powered powered _)

/-- A scrambled cell at a part with its supply (R31, R32). -/
theorem exec_scrambledCell (powered : s.powered = true) (n : Screen) (p : Parity) (service : BitVec 12)
    (continuity : BitVec 4) (epoch : BitVec 6) (payload : List Byte) :
    exec (.scrambledCell n p service continuity epoch payload) s =
      .next (s.scrambledCellAt n p ⟨service, cellKindOf p, continuity, epoch, payload⟩) :=
  congrArg _ (State.ifPowered_of_powered powered _)

end Sys2Proof.Machine
end

section
/-! PROOFS. Cells passed, missed and nulled (R30, R32). -/

namespace Sys2Proof.Machine

/-- Settles O35: whether the lane shows the service decides each cell, and `setKeyMiss_place_frame` gives what a shown one
writes. -/
theorem aCellIsPassedMissedOrNulled : Obligations.ACellIsPassedMissedOrNulled := by
  refine ⟨fun s n service continuity epoch payload powered => ⟨_, exec_clearCell powered .., ?_⟩,
    fun s n p service continuity epoch payload powered => ⟨fun tuned shown unusable => ⟨_, exec_scrambledCell powered .., ?_⟩,
      fun away => ⟨_, exec_scrambledCell powered .., ?_⟩⟩⟩
  · by_cases shown : (s.lane n).ShowsService service
    · rw [State.clearCellAt_passed shown]
      obtain ⟨notices, frame⟩ := s.setKeyMiss_place_frame n false ⟨service, .clear, continuity, epoch, payload⟩
      exact ⟨notices, fun m other => by simp [other], frame,
        fun _ => ⟨State.out_place_self .., by simp, fun m other => by simp [other]⟩, fun away => absurd shown away⟩
    · rw [State.clearCellAt_nulled shown]
      exact ⟨rfl, fun m other => State.out_place_ne s other _, rfl, fun passed => absurd passed shown,
        fun _ => ⟨State.out_place_self .., rfl, rfl⟩⟩
  · rw [State.scrambledCellAt_missed ⟨tuned, shown⟩ (State.keyFor_eq_none unusable)]
    obtain ⟨notices, frame⟩ := s.setKeyMiss_place_frame n true nullCell
    refine ⟨notices, frame, State.out_place_self .., by simp, fun m other => by simp [other], fun missed => ?_,
      fun clear mode => State.setKeyMiss_shows clear mode⟩
    rw [State.place_link, State.setKeyMiss_of_eq missed]
  · have notShown : ¬(s.lane n).ShowsService service := by
      rw [not_and_or, not_or]
      exact away
    rw [State.scrambledCellAt_nulled notShown]
    exact ⟨rfl, State.out_place_self .., fun m other => State.out_place_ne s other _⟩

end Sys2Proof.Machine
end

section
/-! SUPPORT. The picture on an output: a cell whose service is not 0 comes only from a lane that shows its service (R30, R32,
R58), and what the kept laws of seats (R44, R49) and of locks (R70, R72) say of such a lane. -/

namespace Sys2Proof.Machine

variable {s : State} {n : Screen} {c out : Cell}

/-! ### What an output shows -/

@[simp] theorem nullCell_service : nullCell.service = 0 := rfl

/-- An output just written with the null cell shows no service (R28). -/
theorem State.not_shown_of_place_nullCell (shown : (s.place n nullCell).out n = some out) : out.service = 0 := by
  rw [State.out_place_self, Option.some.injEq] at shown
  rw [← shown, nullCell_service]

/-- A decode places the cell in the clear, of the same service (R32, R33). -/
theorem State.scrambledCellAt_decoded {p : Parity} {slot : Fin 16} {h : KeyHalf} (shows : (s.lane n).ShowsService c.service)
    (key : s.keyFor c.service.toNat p c.epoch = some (slot, h)) :
    s.scrambledCellAt n p c = ((s.decodeFrom slot p).setKeyMiss n false).place n
      { c with kind := .clear, payload := transform h.word c.continuity c.payload } := by
  rw [State.scrambledCellAt, if_pos (((s.lane n).takes_and_shows_iff c.service).mpr shows), key]

/-- A RATING cell leaves the null cell on its lane's output, whatever the lane (R58). -/
@[simp] theorem State.out_ratingCellAt (s : State) (n : Screen) (c : Cell) :
    (s.ratingCellAt n c).out n = some nullCell := by
  rw [State.ratingCellAt]
  split
  · exact State.out_place_self ..
  · exact State.out_place_self ..

/-- A RATING cell at a part with its supply (R58). -/
theorem exec_ratingCell (powered : s.powered = true) (n : Screen) (service : BitVec 12) (continuity : BitVec 4)
    (epoch : BitVec 6) (payload : List Byte) :
    exec (.ratingCell n service continuity epoch payload) s =
      .next (s.ratingCellAt n ⟨service, .rating, continuity, epoch, payload⟩) :=
  congrArg _ (State.ifPowered_of_powered powered _)

/-- A CLEAR cell puts a service on the output only where the lane shows that service (R30). -/
theorem State.showsService_of_out_clearCellAt (shown : (s.clearCellAt n c).out n = some out) (named : out.service ≠ 0) :
    (s.lane n).ShowsService out.service := by
  by_cases shows : (s.lane n).ShowsService c.service
  · rw [State.clearCellAt_passed shows, State.out_place_self, Option.some.injEq] at shown
    rwa [← shown]
  · rw [State.clearCellAt_nulled shows] at shown
    exact absurd (State.not_shown_of_place_nullCell shown) named

/-- So does a scrambled cell, decoded or not (R31, R32). -/
theorem State.showsService_of_out_scrambledCellAt {p : Parity} (shown : (s.scrambledCellAt n p c).out n = some out)
    (named : out.service ≠ 0) : (s.lane n).ShowsService out.service := by
  by_cases shows : (s.lane n).ShowsService c.service
  · cases key : s.keyFor c.service.toNat p c.epoch with
    | none =>
      rw [State.scrambledCellAt_missed shows key] at shown
      exact absurd (State.not_shown_of_place_nullCell shown) named
    | some found =>
      rw [State.scrambledCellAt_decoded shows key, State.out_place_self, Option.some.injEq] at shown
      rwa [← shown]
  · rw [State.scrambledCellAt_nulled shows] at shown
    exact absurd (State.not_shown_of_place_nullCell shown) named

/-- The three cell commands together. -/
theorem showsService_of_cell {t : State} {i : Instr} {p : Parity} {service : BitVec 12} {continuity : BitVec 4}
    {epoch : BitVec 6} {payload : List Byte} (powered : s.powered = true)
    (cell : i ∈ [Instr.clearCell n service continuity epoch payload, Instr.scrambledCell n p service continuity epoch payload,
      Instr.ratingCell n service continuity epoch payload])
    (done : exec i s = .next t) (shown : t.out n = some out) (named : out.service ≠ 0) :
    (s.lane n).ShowsService out.service := by
  simp only [List.mem_cons, List.not_mem_nil, or_false] at cell
  obtain rfl | rfl | rfl := cell
  case inl =>
    rw [exec_clearCell powered, Host.Outcome.next.injEq] at done
    exact State.showsService_of_out_clearCellAt (done ▸ shown) named
  case inr.inl =>
    rw [exec_scrambledCell powered, Host.Outcome.next.injEq] at done
    exact State.showsService_of_out_scrambledCellAt (done ▸ shown) named
  case inr.inr =>
    rw [exec_ratingCell powered, Host.Outcome.next.injEq] at done
    rw [← done, State.out_ratingCellAt, Option.some.injEq] at shown
    exact absurd (shown ▸ nullCell_service) named

/-! ### What the kept laws say of a lane that shows a service -/

/-- A lane OPEN on a FILM or EVENT is in the seat set of a rental of that service (R42, R44, R49). -/
theorem State.ViewingOk.seated (ok : s.ViewingOk) {service : Nat} {e : LineupEntry} (opened : (s.lane n).state = .opened)
    (tuned : (s.lane n).tuned = some service) (entry : e ∈ s.entry service)
    (rented : e.terms.code = 2 ∨ e.terms.code = 3) : ∃ r ∈ s.rentals, r.service = service ∧ n ∈ r.seats := by
  obtain ⟨⟨_, _, _, standings⟩, viewing⟩ := ok
  have holding : (s.lane n).standing = .holding := viewing n opened e (by rwa [tuned]) rented
  obtain ⟨_, r, held, same, seat⟩ := (standings n).1 holding
  rw [tuned, Option.some.injEq] at same
  exact ⟨r, held, same.symm, seat⟩

/-- A rating is not blocked exactly when it exceeds no ceiling (R70). -/
theorem ratingCompare_any_eq_false_iff (rating ceilings : Rating) :
    (ratingCompare rating ceilings).any = false ↔
      rating.age ≤ ceilings.age ∧ rating.violence ≤ ceilings.violence ∧ rating.language ≤ ceilings.language ∧
        rating.sexual ≤ ceilings.sexual := by
  simp [ratingCompare, Places.any, and_assoc]

end Sys2Proof.Machine
end

section
/-! PROOFS. A picture needs a seat or a preview, and a rating that passes (R44, R72). -/

namespace Sys2Proof.Machine

/-- Settles O13: a service on the output is one its lane shows (`showsService_of_cell`), and of that lane the kept laws give the
seat of an OPEN one and the rating of any. -/
theorem aPictureNeedsASeatOrAPreview : Obligations.APictureNeedsASeatOrAPreview := by
  intro s t n p service continuity epoch payload c out powered cell done shown named
  obtain ⟨tuned, shows⟩ := showsService_of_cell powered cell done shown named
  refine ⟨fun viewing e entry rented => ⟨tuned, ?_⟩, fun locks => ?_⟩
  · obtain opened | preview := shows
    · exact .inr (viewing.seated opened tuned entry rented)
    · exact .inl preview
  · exact (locks n shows).imp_left (ratingCompare_any_eq_false_iff _ _).mp

end Sys2Proof.Machine
end

section
/-! SUPPORT. Events that make no rental (R112, R122): an OCCUPIED room stays OCCUPIED in its session, and rentals at most end.
Each operation of the part but the sale, the opening and closing of a stay and the cold start is of this kind, and such an event
keeps the law of the Rental List. -/

namespace Sys2Proof.Machine

variable {s t u : State}

/-- What the law of the Rental List reads of a rental: its service and its session (R112). -/
def Rental.mark (r : Rental) : Nat × Nat := (r.service, r.session)

/-- What the law of the Rental List reads of the state (R112). -/
def State.stay (s : State) : List Rental × Occupancy × Nat := (s.rentals, s.room.occupancy, s.room.session)

/-- From s to t an OCCUPIED room stays OCCUPIED, its session stands, and the rentals are those of s, in their order and with
their marks, but for those that have ended. -/
structure OnlyEnds (s t : State) : Prop where
  occupied : s.room.occupancy = .occupied → t.room.occupancy = .occupied
  session : t.room.session = s.room.session
  rentals : (t.rentals.map Rental.mark).Sublist (s.rentals.map Rental.mark)

/-- Such an event keeps the law of the Rental List. -/
theorem State.RentalListOk.onlyEnds (ok : s.RentalListOk) (h : OnlyEnds s t) : t.RentalListOk := by
  obtain ⟨few, services, empty, sessions⟩ := ok
  refine ⟨?_, ?_, fun away => ?_, fun r held => ?_⟩
  · have shorter := h.rentals.length_le
    rw [List.length_map, List.length_map] at shorter
    exact shorter.trans few
  · have kept := h.rentals.map Prod.fst
    rw [List.map_map, List.map_map] at kept
    exact kept.nodup services
  · have rest := h.rentals
    rwa [empty (mt h.occupied away), List.map_nil, List.sublist_nil, List.map_eq_nil_iff] at rest
  · obtain ⟨x, was, same⟩ := List.mem_map.mp (h.rentals.subset (List.mem_map_of_mem held))
    rw [h.session, ← sessions x was]
    exact (congrArg Prod.snd same).symm

/-- A list without a rental meets its law, whatever the room. -/
theorem State.RentalListOk.of_empty (empty : s.rentals = []) : s.RentalListOk := by
  unfold State.RentalListOk
  simp [empty]

/-- A difference applied to the totals leaves the stay (R140). -/
theorem RoomRecord.applyDifference_stay (r : RoomRecord) (credits charge : Nat) :
    (r.applyDifference credits charge).occupancy = r.occupancy ∧
      (r.applyDifference credits charge).session = r.session := by
  unfold RoomRecord.applyDifference
  split
  · exact ⟨rfl, rfl⟩
  · split <;> exact ⟨rfl, rfl⟩

namespace OnlyEnds

theorem refl (s : State) : OnlyEnds s s := ⟨id, rfl, .refl _⟩

theorem trans (h : OnlyEnds s t) (k : OnlyEnds t u) : OnlyEnds s u :=
  ⟨k.occupied ∘ h.occupied, k.session.trans h.session, k.rentals.trans h.rentals⟩

/-- An event that writes neither the list nor what it reads of the room. -/
theorem same (h : t.stay = s.stay) : OnlyEnds s t := by
  obtain ⟨rentals, occupancy, session⟩ : t.rentals = s.rentals ∧ t.room.occupancy = s.room.occupancy ∧
      t.room.session = s.room.session := by
    simpa only [State.stay, Prod.mk.injEq] using h
  exact ⟨occupancy.trans, session, rentals ▸ .refl _⟩

/-- Rentals changed in their place, their marks kept. -/
theorem mapRentals (f : Rental → Rental) (h : ∀ r, (f r).mark = r.mark) :
    OnlyEnds s { s with rentals := s.rentals.map f } := by
  refine ⟨id, rfl, ?_⟩
  rw [List.map_map, show Rental.mark ∘ f = Rental.mark from funext h]

/-- What an admission can reach is of this kind (R47 to R55). -/
theorem of_viewing (h : Viewing s t) : OnlyEnds s t := by
  have occupancy : t.room.occupancy = s.room.occupancy := congrArg (·.room.occupancy) h.only.1
  have session : t.room.session = s.room.session := congrArg (·.room.session) h.only.1
  have marks := congrArg (List.map Rental.mark) h.unseated
  rw [List.map_map, List.map_map] at marks
  exact ⟨occupancy.trans, session, marks ▸ .refl _⟩

theorem viewing (h : OnlyEnds s t) (k : Viewing t u) : OnlyEnds s u := h.trans (of_viewing k)

theorem raise (h : OnlyEnds s t) (p : NoticePair) (v : Snapshot) (fault : Bool) : OnlyEnds s (t.raise p v fault) :=
  h.trans (same rfl)

/-- Either outcome of a test is of this kind. -/
theorem ite {p : Prop} [Decidable p] (h : OnlyEnds s t) (k : OnlyEnds s u) : OnlyEnds s (if p then t else u) := by
  split
  · exact h
  · exact k

/-- A fold of updates each of which is of this kind. -/
theorem foldl {α : Type} (f : State → α → State) (h : ∀ s a, OnlyEnds s (f s a)) :
    ∀ (as : List α) (s : State), OnlyEnds s (as.foldl f s)
  | [], s => refl s
  | a :: as, s => (h s a).trans (foldl f h as (f s a))

/-! ### Lanes and locks -/

theorem setLane (s : State) (n : Screen) (l : Lane) : OnlyEnds s (s.setLane n l) := same rfl

theorem setUnlock (s : State) (n : Screen) (unlock : Option Unlock) : OnlyEnds s (s.setUnlock n unlock) := same rfl

theorem setKeyMiss (s : State) (n : Screen) (miss : Bool) : OnlyEnds s (s.setKeyMiss n miss) := by
  rw [(s.setKeyMiss_frame n miss).1]
  exact same rfl

theorem tuneTo (s : State) (n : Screen) (service : Nat) : OnlyEnds s (s.tuneTo n service) := by
  have cleared := (of_viewing (.release s n)).trans (setUnlock _ n none)
  have retuned := cleared.trans (setLane _ n _ : OnlyEnds _ (State.retune _ n service))
  exact (retuned.trans (setKeyMiss _ n false)).viewing (.admitLane _ n)

theorem untuneLane (s : State) (n : Screen) : OnlyEnds s (s.untuneLane n) := by
  have cleared := (of_viewing (.release s n)).trans (setUnlock _ n none)
  unfold State.untuneLane
  dsimp only
  split
  · exact cleared.trans (setLane ..)
  · exact (cleared.trans (setLane ..)).raise ..

theorem expirePreview (s : State) (n : Screen) : OnlyEnds s (s.expirePreview n) := by
  unfold State.expirePreview
  dsimp only
  split
  · exact (setLane s n _).viewing (.admitLane _ n)
  · exact (setLane s n _).viewing ((Viewing.addPreviewUsed _ _).trans (.admitLane _ n))

theorem previewTest (s : State) (n : Screen) : OnlyEnds s (s.previewTest n) :=
  ite (expirePreview s n) (refl s)

theorem endUnlock (s : State) (n : Screen) : OnlyEnds s (s.endUnlock n) :=
  (setUnlock s n none).viewing (.admitLane _ n)

theorem unlockTest (s : State) (n : Screen) : OnlyEnds s (s.unlockTest n) := by
  unfold State.unlockTest
  split
  · exact ite (endUnlock s n) (refl s)
  · exact refl s

theorem lockoutTest (s : State) : OnlyEnds s s.lockoutTest :=
  ite (same rfl) (refl s)

theorem setShutdown (s : State) (value : Bool) (named : List Screen) : OnlyEnds s (s.setShutdown value named) := by
  refine foldl _ (fun s n => ?_) named s
  exact setLane s n _

theorem shutdownScreens (s : State) (value : Bool) (named : List Screen) :
    OnlyEnds s (s.shutdownScreens value named) :=
  (setShutdown s value named).viewing (.admitEach _ named)

theorem dropPreviews (s : State) : OnlyEnds s s.dropPreviews := by
  refine foldl _ (fun s n => ?_) screens s
  exact setLane s n _

theorem resetScreens (s : State) : OnlyEnds s s.resetScreens := by
  have unlocks : OnlyEnds s s.dropPreviews.dropUnlocks := (dropPreviews s).trans (same rfl)
  exact (unlocks.trans (setShutdown _ false screens)).viewing (.foldl _ Viewing.resetLane screens _)

theorem latch (s : State) (f : Latched → Latched) : OnlyEnds s (s.latch f) := same rfl

theorem resetRoom (s : State) : OnlyEnds s s.resetRoom := (resetScreens s).trans (latch ..)

theorem changePin (s : State) (pin : Option Nat) : OnlyEnds s (s.changePin pin) := by
  have stored : OnlyEnds s { s with lock := { s.lock.noLockout with pin := pin } } := same rfl
  unfold State.changePin
  exact (stored.viewing (.admitAll _)).raise ..

theorem setFailures (s : State) (count : Nat) : OnlyEnds s (s.setFailures count) :=
  ite (refl s) (same rfl)

theorem wrongPin (s : State) : OnlyEnds s s.wrongPin :=
  ite (same rfl) (same rfl)

theorem pinAttempt (s : State) (pin carried : Nat) : OnlyEnds s (s.pinAttempt pin carried).1 := by
  unfold State.pinAttempt
  split
  · exact refl s
  · split
    · exact setFailures s 0
    · exact wrongPin s

theorem judgePin_fst (s : State) (required : Bool) (carried : Option Nat) :
    OnlyEnds s (s.judgePin required carried).1 := by
  unfold State.judgePin
  split
  · exact refl s
  · split
    · exact refl s
    · exact pinAttempt ..

/-- A judged PIN, refused or not (R74, R76). -/
theorem judgePin {required : Bool} {carried : Option Nat} {refusal : Option Result}
    (judged : s.judgePin required carried = (t, refusal)) : OnlyEnds s t := by
  have ends := judgePin_fst s required carried
  rwa [judged] at ends

theorem unlockRequest (s : State) (screen : Nat) (carried : Option Nat) :
    OnlyEnds s (s.unlockRequest screen carried).1 := by
  unfold State.unlockRequest
  split
  · exact refl s
  next n _ =>
    split
    · exact refl s
    next service _ =>
      split
      next judged => exact judgePin judged
      next s1 judged =>
        have granted : OnlyEnds s (s1.grantUnlock n service) := (judgePin judged).trans (same rfl)
        exact granted.viewing (.admitLane _ n)

theorem relockRequest (s : State) (screen : Nat) : OnlyEnds s (s.relockRequest screen).1 := by
  unfold State.relockRequest
  split
  · exact refl s
  · split
    · exact refl s
    · exact endUnlock s _

theorem ceilingsRequest (s : State) (screen : Nat) (quad : Rating) (carried : Option Nat) :
    OnlyEnds s (s.ceilingsRequest screen quad carried).1 := by
  unfold State.ceilingsRequest
  split
  · exact refl s
  next n _ =>
    split
    next judged => exact judgePin judged
    next s1 judged =>
      have limited : OnlyEnds s (s1.setCeiling n quad) := (judgePin judged).trans (same rfl)
      exact limited.viewing (.admitLane _ n)

theorem setPinRequest (s : State) (newPin oldPin : Option Nat) : OnlyEnds s (s.setPinRequest newPin oldPin).1 := by
  unfold State.setPinRequest
  split
  next judged => exact judgePin judged
  next judged => exact (judgePin judged).trans (changePin _ newPin)

theorem tuneRequest (s : State) (screen service : Nat) : OnlyEnds s (s.tuneRequest screen service).1 := by
  unfold State.tuneRequest
  split
  · exact refl s
  · split
    · exact refl s
    · exact tuneTo s _ service

theorem untuneRequest (s : State) (screen : Nat) : OnlyEnds s (s.untuneRequest screen).1 := by
  unfold State.untuneRequest
  split
  · exact refl s
  · exact untuneLane s _

theorem reportRequest (s : State) (screen : Nat) : OnlyEnds s (s.reportRequest screen).1 := by
  unfold State.reportRequest
  split
  · exact refl s
  · exact refl s

/-! ### Cells, keys and the line-up -/

theorem clearCellAt (s : State) (n : Screen) (c : Cell) : OnlyEnds s (s.clearCellAt n c) :=
  ite ((setKeyMiss s n false).trans (same rfl)) (same rfl)

theorem scrambledCellAt (s : State) (n : Screen) (p : Parity) (c : Cell) : OnlyEnds s (s.scrambledCellAt n p c) := by
  unfold State.scrambledCellAt
  split
  · split
    · exact (setKeyMiss s n true).trans (same rfl)
    next slot _ _ =>
      have decoded : OnlyEnds s (s.decodeFrom slot p) := same rfl
      exact (decoded.trans (setKeyMiss _ n false)).trans (same rfl)
  · exact same rfl

theorem ratingCellAt (s : State) (n : Screen) (c : Cell) : OnlyEnds s (s.ratingCellAt n c) :=
  ite (((setLane s n _).viewing (.admitLane _ n)).trans (same rfl)) (same rfl)

theorem expireHalf (s : State) (slot : Fin 16) (p : Parity) : OnlyEnds s (s.expireHalf slot p) := same rfl

theorem expireHalves (s : State) : OnlyEnds s s.expireHalves :=
  foldl _ (fun s slot => (expireHalf s slot .even).trans (expireHalf _ slot .odd)) slots s

theorem loadKey (s : State) (k : KeyLoad) : OnlyEnds s (s.loadKey k) :=
  ite (same rfl) (same rfl)

theorem stageEntry (s : State) (e : LineupEntry) : OnlyEnds s (s.stageEntry e) := by
  rw [s.stageEntry_onlyStages e]
  exact same rfl

theorem resetRatings (s : State) : OnlyEnds s s.resetRatings := by
  refine foldl _ (fun s n => ?_) screens s
  split
  · exact refl s
  · exact same rfl

theorem acceptLineup (s : State) (generation : Nat) : OnlyEnds s (s.acceptLineup generation) := by
  have committed : OnlyEnds s { s with lineup := ⟨s.lineup.standby, generation, .idle, [], false⟩ } := same rfl
  exact ((committed.raise ..).trans (resetRatings _)).viewing (.admitAll _)

theorem commitLineup (s : State) (generation count : Nat) : OnlyEnds s (s.commitLineup generation count) := by
  unfold State.commitLineup
  split
  · exact same rfl
  · exact same rfl
  · exact ite (acceptLineup s _) (same rfl)

/-! ### Rentals and charges -/

/-- The end of the rental at an index, if the list holds one (R122). -/
theorem endRental (s : State) (index : Fin 8) : OnlyEnds s (s.endRental index) := by
  cases held : s.rentalAt index with
  | none =>
    rw [s.endRental_none index held]
    exact refl s
  | some r =>
    obtain ⟨view, _, rest⟩ := s.endRental_view index (Option.isSome_of_eq_some held)
    have occupancy : (s.endRental index).room.occupancy = s.room.occupancy := congrArg (·.room.occupancy) view.1
    have session : (s.endRental index).room.session = s.room.session := congrArg (·.room.session) view.1
    have marks := congrArg (List.map Rental.mark) rest
    rw [List.map_map, List.map_map] at marks
    refine ⟨occupancy.trans, session, ?_⟩
    exact marks ▸ List.filter_sublist.map _

theorem endRentals (s : State) (indices : List (Fin 8)) : OnlyEnds s (s.endRentals indices) :=
  foldl _ endRental indices s

theorem expireRentals (s : State) : OnlyEnds s s.expireRentals := endRentals s _

theorem expireRentalAt (s : State) (index : Fin 8) : OnlyEnds s (s.expireRentalAt index) := by
  unfold State.expireRentalAt
  split
  · exact refl s
  · exact ite (endRental s index) (refl s)

theorem meter (s : State) : OnlyEnds s s.meter := by
  refine mapRentals _ fun r => ?_
  split
  · rfl
  · rfl

theorem markWaived (s : State) (n : Nat) : OnlyEnds s (s.markWaived n) := by
  refine mapRentals _ fun r => ?_
  split
  · rfl
  · rfl

theorem setEntries (s : State) (entries : List QueueEntry) : OnlyEnds s (s.setEntries entries) := same rfl

theorem cancelQueue (s : State) (r : Rental) : OnlyEnds s (s.cancelQueue r) := by
  unfold State.cancelQueue
  split
  · exact refl s
  · exact same rfl
  · exact same rfl

theorem acceptCancel (s : State) (r : Rental) : OnlyEnds s (s.acceptCancel r) := by
  have queued := cancelQueue s r
  have lowered : OnlyEnds s { s.cancelQueue r with room := s.room.fall (s.cancelAmount r) } :=
    ⟨id, rfl, queued.rentals⟩
  have ended := lowered.trans (endRental _ r.index)
  exact ite ended (ended.raise ..)

theorem cancelRequest (s : State) (index : Nat) (carried : Option Nat) :
    OnlyEnds s (s.cancelRequest index carried).1 := by
  unfold State.cancelRequest
  split
  · exact refl s
  next r _ =>
    split
    · exact refl s
    · split
      next judged => exact judgePin judged
      next judged =>
        split
        · exact judgePin judged
        · exact (judgePin judged).trans (acceptCancel _ r)

theorem collectHead (s : State) : OnlyEnds s s.collectHead := by
  unfold State.collectHead
  split
  · exact refl s
  · exact ite (same rfl) (refl s)

/-- A CLOSING room that becomes VACANT was not OCCUPIED (R97). -/
theorem closeIfEmpty (s : State) : OnlyEnds s s.closeIfEmpty := by
  unfold State.closeIfEmpty
  split
  next closing =>
    have vacated : OnlyEnds s { s with room := { s.room with occupancy := .vacant } } :=
      ⟨fun occupied => absurd (occupied.symm.trans closing.1) (by decide), rfl, .refl _⟩
    exact vacated.raise ..
  · exact refl s

theorem confirmCharge (s : State) (n : Nat) : OnlyEnds s (s.confirmCharge n).1 := by
  unfold State.confirmCharge
  split
  · exact refl s
  · split
    · exact refl s
    · split
      · exact (setEntries s _).trans (closeIfEmpty _)
      · exact refl s

theorem declineCharge (s : State) (n : Nat) : OnlyEnds s (s.declineCharge n).1 := by
  unfold State.declineCharge
  split
  · exact refl s
  · split
    · exact refl s
    · split
      · exact same rfl
      · split
        · exact same rfl
        · exact refl s

/-- The totals replaced, in a room whose occupancy and session stand (R107). -/
theorem withTotals (s : State) (r : RoomRecord) (occupancy : r.occupancy = s.room.occupancy)
    (session : r.session = s.room.session) : OnlyEnds s (s.withTotals r) := by
  have stored : OnlyEnds s { s with room := r } := ⟨occupancy.trans, session, .refl _⟩
  exact ite stored (stored.raise ..)

theorem settleCharge (s : State) (head : QueueEntry) : OnlyEnds s (s.settleCharge head) := by
  have ⟨occupancy, session⟩ := RoomRecord.applyDifference_stay s.room
    (((s.charges.entries.drop 1).filter (fun e => e.refersTo == some head.number)).map (·.amount)).sum head.amount
  exact (setEntries s _).trans (withTotals _ _ occupancy session)

theorem endHold (s : State) : OnlyEnds s s.endHold := (same rfl : OnlyEnds s (s.raiseBilling false)).trans (closeIfEmpty _)

theorem waiveCharge (s : State) (n : Nat) : OnlyEnds s (s.waiveCharge n).1 := by
  unfold State.waiveCharge
  split
  · exact refl s
  next head _ => exact ((settleCharge s head).trans (markWaived _ n)).trans (endHold _)

theorem endRentalOfCharge (s : State) (n : Nat) : OnlyEnds s (s.endRentalOfCharge n) := by
  unfold State.endRentalOfCharge
  split
  · exact endRental s _
  · exact refl s

theorem revokeCharge (s : State) (n : Nat) : OnlyEnds s (s.revokeCharge n).1 := by
  unfold State.revokeCharge
  split
  · exact refl s
  next head _ => exact ((settleCharge s head).trans (endRentalOfCharge _ n)).trans (endHold _)

/-! ### The Room Record and the two time bases -/

theorem startPeriod (s : State) : OnlyEnds s s.startPeriod :=
  ite (same rfl) (refl s)

theorem periodTest (s : State) : OnlyEnds s s.periodTest :=
  ite (same rfl) (refl s)

/-- The cap period at a TIME_SET and at a warm start: a pending one starts, a running one is tested (R100, R101). -/
theorem periodTask (s : State) :
    OnlyEnds s (if s.room.period.isNone then s.startPeriod else s.periodTest) :=
  ite (startPeriod s) (periodTest s)

theorem refreshStay (s : State) (t : StayTerms) : OnlyEnds s (s.refreshStay t) :=
  ((same rfl : OnlyEnds s (s.storeTerms t)).viewing (.admitAll _)).raise ..

theorem updateRoom (s : State) (t : StayTerms) : OnlyEnds s (s.updateRoom t) :=
  ite (refreshStay s t) (same rfl)

theorem addressRequest (s : State) (address : Nat) : OnlyEnds s (s.addressRequest address).1 := by
  unfold State.addressRequest
  split
  · exact refl s
  · dsimp only
    split
    · exact same rfl
    · exact same rfl

theorem admitOnEdge (s : State) (n : Screen) : OnlyEnds s (s.admitOnEdge n) :=
  ite (of_viewing (.admitLane s n)) (refl s)

theorem edgeTest (s : State) (service : Nat) : OnlyEnds s (s.edgeTest service) :=
  ite (of_viewing (.admitTuned s service screens)) (refl s)

theorem secondTask (s : State) (task : ClockTask) : OnlyEnds s (s.secondTask task) := by
  cases task with
  | metering => exact meter s
  | keyHalves => exact expireHalves s
  | rentalEnds => exact expireRentals s
  | capPeriod => exact periodTest s
  | windows => exact foldl _ admitOnEdge screens s
  | clockNotice => exact refl s

theorem setTask (jump : Jump) (s : State) (task : ClockTask) : OnlyEnds s (s.setTask jump task) := by
  cases task with
  | metering => exact refl s
  | keyHalves => exact expireHalves s
  | rentalEnds => exact expireRentals s
  | capPeriod => exact periodTask s
  | windows => exact of_viewing (.admitAll s)
  | clockNotice => exact same rfl

theorem startTask (s : State) (task : ClockTask) : OnlyEnds s (s.startTask task) := by
  cases task with
  | rentalEnds => exact expireRentals s
  | capPeriod => exact periodTask s
  | metering | keyHalves | windows | clockNotice => exact refl s

theorem roomSecond (s : State) (order : List ClockTask) : OnlyEnds s (s.roomSecond order) := by
  have counted : OnlyEnds s { s with clock := { s.clock with count := s.clock.count + 1 } } := same rfl
  exact ite (ite (counted.trans (foldl _ secondTask _ _)) counted) (refl s)

theorem setTime (s : State) (t : Nat) (order : List ClockTask) : OnlyEnds s (s.setTime t order) := by
  have moved : OnlyEnds s { s with clock := { s.clock with isSet := true, count := t } } := same rfl
  exact moved.trans (foldl _ (setTask _) _ _)

theorem silenceTest (s : State) : OnlyEnds s s.silenceTest :=
  ite (same rfl) (refl s)

theorem timerTest (s : State) (timer : RunTimer) : OnlyEnds s (s.timerTest timer) := by
  cases timer with
  | preview n => exact previewTest s n
  | unlock n => exact unlockTest s n
  | lockout => exact lockoutTest s
  | silence => exact silenceTest s

theorem tick (s : State) (order : List RunTimer) : OnlyEnds s (s.tick order) :=
  (same rfl : OnlyEnds s s.tickCounts).trans (foldl _ timerTest _ _)

/-! ### Starts -/

theorem volatileStart (s : State) : OnlyEnds s s.volatileStart :=
  (mapRentals Rental.unseated fun _ => rfl).trans (same rfl)

theorem warmBlocks (s : State) (order : List ClockTask) : OnlyEnds s (s.warmBlocks order) := by
  have begun : OnlyEnds s { s.volatileStart with lastStart := .warm } := (volatileStart s).trans (same rfl)
  exact ite (begun.trans (foldl _ startTask _ _)) begun

theorem countHeld (s : State) (seconds : Nat) : OnlyEnds s (s.countHeld seconds) :=
  ite (same rfl) (refl s)

theorem untuneAll (s : State) : OnlyEnds s s.untuneAll := foldl _ untuneLane screens s

theorem takeRestart (s : State) : OnlyEnds s s.takeRestart := by
  have emptied : OnlyEnds s { s with link := { s.link with buffer := [], tx := .idle } } := same rfl
  have untuned := emptied.trans (untuneAll _)
  unfold State.takeRestart
  dsimp only
  generalize State.untuneAll _ = u at untuned ⊢
  exact untuned.trans (same rfl)

/-! ### The two links -/

/-- A request's reply sent, with what waits behind it (R185). -/
theorem reply (s : State) (behind : List MlFrame) (reply : MlReply) : OnlyEnds s ((s.setBuffer behind).send reply) := same rfl

theorem hearFrame (s : State) : OnlyEnds s s.hearFrame := by
  rw [s.hearFrame_eq]
  exact same rfl

theorem abandonReply (s : State) : OnlyEnds s s.abandonReply := by
  unfold State.abandonReply
  split
  · exact same rfl
  · exact refl s

theorem plAbort (s : State) : OnlyEnds s s.plAbort :=
  ite ((abandonReply s).trans (same rfl)) (refl s)

theorem finishTx (s : State) : OnlyEnds s s.finishTx :=
  ite (takeRestart s) (same rfl)

theorem addAnswer (s : State) (reply : MlReply) : OnlyEnds s (s.addAnswer reply) :=
  ite (same rfl) (refl s)

theorem offer (s : State) (f : MlFrame) : OnlyEnds s (s.offer f) :=
  ite (same rfl) (addAnswer s _)

end OnlyEnds
end Sys2Proof.Machine
end

section
/-! SUPPORT. The events that make a rental or change the stay, and what either link or a start brings about: each keeps the law of
the Rental List (R92 to R97, R109, R115). -/

namespace Sys2Proof.Machine

variable {s t : State}

/-! ### What a sale is judged by -/

/-- A service without a rental gets none by an event that makes none. -/
theorem OnlyEnds.rentalOf_none (h : OnlyEnds s t) {service : Nat}
    (absent : s.rentalOf service = none) : t.rentalOf service = none := by
  have others : ∀ r ∈ s.rentals, r.service ≠ service := by simpa [State.rentalOf] using absent
  refine List.find?_eq_none.mpr fun r held same => ?_
  obtain ⟨x, was, mark⟩ := List.mem_map.mp (h.rentals.subset (List.mem_map_of_mem held))
  exact others x was ((congrArg Prod.fst mark).trans (beq_iff_eq.mp same))

/-- No rental is made while the list is full (R113 check 13). -/
theorem State.place_of_judgeMoney {amount : Nat} (passed : s.judgeMoney amount = none) : s.rentals.length < rentalCapacity := by
  unfold State.judgeMoney at passed
  split at passed
  · cases passed
  · split at passed
    · cases passed
    · split at passed
      · cases passed
      next free => exact Nat.lt_of_not_le free

/-- A sale is of the entry it was asked for (R113 check 4). -/
theorem State.entry_of_saleOf {e : LineupEntry} {sale : Sale} (h : s.saleOf e = some sale) : sale.entry = e := by
  unfold State.saleOf at h
  split at h
  · cases h
    rfl
  · cases h
    rfl
  · cases h

/-- An entry is found under its own service (R2). -/
theorem State.service_of_entry {service : Nat} {e : LineupEntry} (h : s.entry service = some e) : e.service = service :=
  beq_iff_eq.mp (List.find?_some (p := fun x : LineupEntry => x.service == service) h)

/-! ### Lists left empty -/

/-- An ended rental's index leaves the list (R122). -/
theorem State.indices_endRental (s : State) (index : Fin 8) :
    (s.endRental index).rentals.map (·.index) = (s.rentals.map (·.index)).filter (· ≠ index) := by
  cases held : s.rentalAt index with
  | none =>
    have absent : ∀ r ∈ s.rentals, r.index ≠ index := by simpa [State.rentalAt] using held
    rw [s.endRental_none index held, List.filter_eq_self.mpr]
    simpa using absent
  | some r =>
    obtain ⟨_, _, rest⟩ := s.endRental_view index (Option.isSome_of_eq_some held)
    have indices := congrArg (List.map Rental.index) rest
    rw [List.map_map, List.map_map] at indices
    rw [List.filter_map]
    exact indices

theorem State.indices_endRentals (indices : List (Fin 8)) (s : State) :
    (s.endRentals indices).rentals.map (·.index) = (s.rentals.map (·.index)).filter (· ∉ indices) := by
  induction indices generalizing s with
  | nil => simp [State.endRentals]
  | cons index rest ih =>
    calc (State.endRentals (s.endRental index) rest).rentals.map (·.index)
      _ = ((s.rentals.map (·.index)).filter (· ≠ index)).filter (· ∉ rest) := by rw [ih, State.indices_endRental]
      _ = (s.rentals.map (·.index)).filter (· ∉ index :: rest) := by simp [List.filter_filter, Bool.and_comm]

theorem State.rentals_endAllRentals (s : State) : s.endAllRentals.rentals = [] := by
  have indices := State.indices_endRentals (s.rentals.map (·.index)) s
  rw [List.filter_eq_nil_iff.mpr (by simp)] at indices
  exact List.map_eq_nil_iff.mp indices

/-- An admission makes no rental in an empty list. -/
theorem Viewing.rentals_nil (h : Viewing s t) (empty : s.rentals = []) : t.rentals = [] := by
  have rentals := h.unseated
  rwa [empty, List.map_nil, List.map_eq_nil_iff] at rentals

/-- A check-out leaves no rental (R96). -/
theorem State.rentals_closeStay (s : State) : s.closeStay.rentals = [] := by
  have ended := State.rentals_endAllRentals s
  unfold State.closeStay
  dsimp only
  rw [State.raiseRoom, State.raise_rentals]
  exact Viewing.rentals_nil (.admitAll _) ended

/-- A stay opens with no rental, whatever its session (R92). -/
theorem State.rentals_openStay (c : CheckIn) (empty : s.rentals = []) : (s.openStay c).rentals = [] := by
  unfold State.openStay
  dsimp only
  rw [State.raiseRoom, State.raise_rentals]
  refine Viewing.rentals_nil (.admitAll _) ?_
  rwa [State.storePin, State.raisePin, State.raise_rentals]

/-- A cold start clears the list (R109). -/
theorem State.rentals_coldBlocks (s : State) : s.coldBlocks.rentals = [] := by
  unfold State.coldBlocks
  dsimp only
  split
  · rw [State.raiseBilling, State.raise_rentals]
  · rfl

namespace State.RentalListOk

/-- Either outcome of a test keeps the law. -/
theorem ite {p : Prop} [Decidable p] (h : s.RentalListOk) (k : t.RentalListOk) : (if p then s else t).RentalListOk := by
  split
  · exact h
  · exact k

/-- A fold of updates each of which keeps the law. -/
theorem foldl {α : Type} {f : State → α → State} (h : ∀ s a, s.RentalListOk → (f s a).RentalListOk) :
    ∀ (as : List α) {s : State}, s.RentalListOk → (as.foldl f s).RentalListOk
  | [], _, ok => ok
  | a :: as, s, ok => foldl h as (h s a ok)

/-! ### Purchase -/

/-- The rental booked is of a service that had none, in a list with room for it, and of the session in force (R113, R115). -/
theorem bookSale {sale : Sale} (ok : s.RentalListOk) (occupied : s.room.occupancy = .occupied)
    (new : s.rentalOf sale.entry.service = none) (place : s.rentals.length < rentalCapacity) :
    (s.bookSale sale).RentalListOk := by
  obtain ⟨_, services, _, sessions⟩ := ok
  have booked : (s.bookSale sale).rentals =
      s.rentals ++ [s.newRental sale (if 0 < s.saleAmount sale then some s.nextNumber else none)] := rfl
  have stay : (s.bookSale sale).room.occupancy = s.room.occupancy ∧
      (s.bookSale sale).room.session = s.room.session := by
    unfold State.bookSale
    dsimp only
    split <;> exact ⟨rfl, rfl⟩
  obtain ⟨occupancy, session⟩ := stay
  refine ⟨?_, ?_, fun away => absurd (occupancy.trans occupied) away, ?_⟩
  · rw [booked, List.length_append]
    exact place
  · have absent : ∀ r ∈ s.rentals, r.service ≠ sale.entry.service := by simpa [State.rentalOf] using new
    rw [booked, List.map_append]
    refine services.append (List.nodup_singleton _) ?_
    simpa [State.newRental] using absent
  · rw [booked, session]
    intro r held
    obtain old | made := List.mem_append.mp held
    · exact sessions r old
    · rw [List.mem_singleton.mp made]
      rfl

/-- After its booking a sale re-admits lanes and grants an unlock, and makes no other rental (R115). -/
theorem acceptSale {sale : Sale} (n : Screen) (grant : Bool) (booked : (s.bookSale sale).RentalListOk) :
    (s.acceptSale n sale grant).RentalListOk := by
  refine booked.onlyEnds ?_
  unfold State.acceptSale
  dsimp only
  generalize s.bookSale sale = u
  have granted : OnlyEnds u (if grant ∧ (s.lane n).tuned = some sale.entry.service then
      u.grantUnlock n sale.entry.service else u) := .ite (.setUnlock ..) (.refl u)
  have admitted := granted.viewing (.admitTuned _ sale.entry.service (purchaseOrder n))
  exact .ite ((admitted.raise ..).raise ..) (admitted.raise ..)

theorem judgeSale {sale : Sale} (ok : s.RentalListOk) (occupied : s.room.occupancy = .occupied)
    (new : s.rentalOf sale.entry.service = none) (n : Screen) (carried : Option Nat) :
    (s.judgeSale n sale carried).1.RentalListOk := by
  unfold State.judgeSale
  split
  next judged => exact ok.onlyEnds (.judgePin judged)
  next s1 judged =>
    have ends : OnlyEnds s s1 := .judgePin judged
    have judgedOk := ok.onlyEnds ends
    split
    · exact judgedOk
    · split
      · exact judgedOk
      next passed =>
        exact acceptSale n _ (bookSale judgedOk (ends.occupied occupied) (ends.rentalOf_none new)
          (State.place_of_judgeMoney passed))

theorem purchaseRequest (ok : s.RentalListOk) (screen service : Nat) (carried : Option Nat) :
    (s.purchaseRequest screen service carried).1.RentalListOk := by
  unfold State.purchaseRequest
  split
  · exact ok
  · split
    · exact ok
    next notAway =>
      have occupied := not_not.mp notAway
      split
      · exact ok
      · split
        · exact ok
        next e entry =>
          split
          · exact ok
          next sale ofEntry =>
            split
            · exact ok
            · split
              · exact ok
              next new =>
                split
                · exact ok
                · rw [← State.service_of_entry entry, ← State.entry_of_saleOf ofEntry] at new
                  exact ok.judgeSale occupied new _ _

/-! ### The stay -/

/-- A room is checked in from a list that is empty: by its law, or by the check-out before (R92 to R95). -/
theorem checkInRoom (ok : s.RentalListOk) (c : CheckIn) : (s.checkInRoom c).RentalListOk := by
  have ⟨_, _, empty, _⟩ := ok
  unfold State.checkInRoom
  split
  · exact ok.onlyEnds (.same rfl)
  · split
    · split
      · exact ok.onlyEnds (.refreshStay s c.terms)
      · exact of_empty (State.rentals_openStay c (State.rentals_closeStay s))
    next away => exact of_empty (State.rentals_openStay c (empty away))

theorem checkOutRoom (ok : s.RentalListOk) : s.checkOutRoom.RentalListOk :=
  ite (of_empty (State.rentals_closeStay s)) ok

/-! ### Starts -/

theorem start (ok : s.RentalListOk) (retentionGood : Bool) (order : List ClockTask) :
    (s.start retentionGood order).RentalListOk :=
  ite (ok.onlyEnds ((OnlyEnds.warmBlocks s order).trans (.same rfl))) (of_empty (State.rentals_coldBlocks s))

/-! ### The media link -/

theorem mlAct (ok : s.RentalListOk) (kind : MlKind) (body : List Byte) : (s.mlAct kind body).1.RentalListOk := by
  cases kind with
  | identify | status | lineupRead | rentalsRead | chargesRead | restart => exact ok
  | tune => exact ok.onlyEnds (.tuneRequest ..)
  | untune => exact ok.onlyEnds (.untuneRequest ..)
  | screenReport => exact ok.onlyEnds (.reportRequest ..)
  | purchase => exact ok.purchaseRequest ..
  | cancelRental => exact ok.onlyEnds (.cancelRequest ..)
  | unlock => exact ok.onlyEnds (.unlockRequest ..)
  | relock => exact ok.onlyEnds (.relockRequest ..)
  | setCeilings => exact ok.onlyEnds (.ceilingsRequest ..)
  | setPin => exact ok.onlyEnds (.setPinRequest ..)
  | noticesRead | noticeModes => exact ok.onlyEnds (.same rfl)
  | setRoomAddress => exact ok.onlyEnds (.addressRequest ..)

theorem judgeRequest (ok : s.RentalListOk) (kind : MlKind) (body : List Byte) :
    (s.judgeRequest kind body).1.RentalListOk := by
  unfold State.judgeRequest
  split
  · exact ok.mlAct kind body
  · exact ok

theorem judgeFrame (ok : s.RentalListOk) (f : MlFrame) : (s.judgeFrame f).1.RentalListOk := by
  unfold State.judgeFrame
  split
  · exact ok
  · exact ok.judgeRequest _ f.body

/-- Judging a request is all that its handling can do to the list (R185, R186). -/
theorem handle (ok : s.RentalListOk) (f : MlFrame) (behind : List MlFrame) : (s.handle f behind).RentalListOk :=
  have emptied : (s.setBuffer []).RentalListOk := ok.onlyEnds (.same rfl)
  (emptied.judgeFrame f).onlyEnds (.reply ..)

theorem chooseNext (ok : s.RentalListOk) : s.chooseNext.RentalListOk := by
  unfold State.chooseNext
  split
  · exact ok.onlyEnds (.same rfl)
  · split
    · exact ok.handle ..
    · exact ok

theorem chooseIfIdle (ok : s.RentalListOk) : s.chooseIfIdle.RentalListOk :=
  ite ok.chooseNext ok

theorem transmitNext (ok : s.RentalListOk) : s.transmitNext.RentalListOk := (ok.onlyEnds (.finishTx s)).chooseNext

theorem arrive (ok : s.RentalListOk) (f : MlFrame) : (s.arrive f).RentalListOk := (ok.onlyEnds (.offer s f)).chooseIfIdle

theorem answerBadFrame (ok : s.RentalListOk) : s.answerBadFrame.RentalListOk :=
  (ok.onlyEnds (.addAnswer s badFrame)).chooseIfIdle

theorem takeMlFrame (ok : s.RentalListOk) (f : MlFrame) : (s.takeMlFrame f).RentalListOk :=
  ite ok.transmitNext (ok.transmitNext.arrive f)

theorem mlEvent (ok : s.RentalListOk) (event : RxEvent MlFrame) : (s.mlEvent event).RentalListOk := by
  cases event with
  | quiet => exact ok
  | tooLong | badCrc => exact ok.answerBadFrame
  | good f => exact ok.arrive f

theorem mlChar (ok : s.RentalListOk) (c : Byte) : (s.mlChar c).RentalListOk := by
  have received : (s.setMlRx (mlRxTake s.link.rx c).1).RentalListOk := ok.onlyEnds (.same rfl)
  exact received.mlEvent _

theorem mlChars (ok : s.RentalListOk) (chars : List Byte) : (s.mlChars chars).RentalListOk :=
  foldl (fun _ c ok => ok.mlChar c) chars ok

theorem mlAbort (ok : s.RentalListOk) : s.mlAbort.RentalListOk := by
  unfold State.mlAbort
  split
  · exact ok
  · exact answerBadFrame (ok.onlyEnds (.same rfl))

/-! ### The property line -/

theorem plAct (ok : s.RentalListOk) (kind : PlKind) (body : List Byte) (order : List ClockTask) :
    (s.plAct kind body order).1.RentalListOk := by
  cases kind with
  | lineupBegin | priceSet => exact ok.onlyEnds (.same rfl)
  | lineupEntry => exact ok.onlyEnds (.stageEntry ..)
  | lineupCommit => exact ok.onlyEnds (.commitLineup ..)
  | keyLoad => exact ok.onlyEnds (.loadKey ..)
  | timeSet => exact ok.onlyEnds (.setTime ..)
  | roomReset => exact ok.onlyEnds (.resetRoom s)
  | checkIn => exact ok.checkInRoom _
  | checkOut => exact ok.checkOutRoom
  | roomUpdate => exact ok.onlyEnds (.updateRoom ..)
  | statusPoll => exact ok
  | collect => exact ok.onlyEnds (.collectHead s)
  | confirm => exact ok.onlyEnds (.confirmCharge ..)
  | decline => exact ok.onlyEnds (.declineCharge ..)
  | waive => exact ok.onlyEnds (.waiveCharge ..)
  | revoke => exact ok.onlyEnds (.revokeCharge ..)
  | screenShutdown | screenRestore => exact ok.onlyEnds (.shutdownScreens ..)
  | pinClear => exact ok.onlyEnds (.changePin ..)

theorem takeBroadcast (ok : s.RentalListOk) (kind : PlKind) (body : List Byte) (order : List ClockTask) :
    (s.takeBroadcast kind body order).RentalListOk :=
  ite ((ok.plAct kind body order).onlyEnds (.same rfl)) (ok.onlyEnds (.same rfl))

theorem takeAddressed (ok : s.RentalListOk) (address : Nat) (kind : PlKind) (body : List Byte)
    (order : List ClockTask) : (s.takeAddressed address kind body order).RentalListOk :=
  ite ((ok.plAct kind body order).onlyEnds (.same rfl)) (ok.onlyEnds (.same rfl))

theorem takeCommand (ok : s.RentalListOk) (address : Nat) (kind : PlKind) (body : List Byte)
    (order : List ClockTask) : (s.takeCommand address kind body order).RentalListOk := by
  have heard := ok.onlyEnds (.hearFrame s)
  unfold State.takeCommand
  split
  · exact heard
  · exact heard.takeBroadcast kind body order
  · exact heard.takeAddressed address kind body order

theorem takeFrame (ok : s.RentalListOk) (f : PlFrame) (order : List ClockTask) : (s.takeFrame f order).RentalListOk := by
  unfold State.takeFrame
  split
  · exact ok.onlyEnds (.hearFrame s)
  · exact ok.takeCommand ..

theorem plFrame (ok : s.RentalListOk) (f : PlFrame) (order : List ClockTask) : (s.plFrame f order).RentalListOk :=
  ite (ok.takeFrame f order) ok

theorem plCommand (ok : s.RentalListOk) (kind : PlKind) (address : BitVec 10) (body : List Byte)
    (order : List ClockTask) : (s.plCommand kind address body order).RentalListOk :=
  ite (ok.takeCommand ..) ok

theorem plChar (ok : s.RentalListOk) (c : Byte) : (s.plChar c).RentalListOk := by
  unfold State.plChar
  split
  · have received : (s.abandonReply.setPlRx (plRxTake s.line.rx c).1).RentalListOk :=
      ok.onlyEnds ((OnlyEnds.abandonReply s).trans (.same rfl))
    dsimp only
    split
    · exact received.takeFrame _ []
    · exact received
  · exact ok

theorem plChars (ok : s.RentalListOk) (chars : List Byte) : (s.plChars chars).RentalListOk :=
  foldl (fun _ c ok => ok.plChar c) chars ok

theorem plCharsThenAbort (ok : s.RentalListOk) (chars : List Byte) : (s.plChars chars).plAbort.RentalListOk :=
  (ok.plChars chars).onlyEnds (.plAbort _)

/-! ### The commands -/

/-- What only a part with its supply does (R108). -/
theorem ifPowered (ok : s.RentalListOk) {f : State → State} (acts : (f s).RentalListOk) :
    (s.ifPowered f).RentalListOk :=
  ite acts ok

theorem ifPoweredEnds (ok : s.RentalListOk) {f : State → State} (acts : OnlyEnds s (f s)) :
    (s.ifPowered f).RentalListOk :=
  ok.ifPowered (ok.onlyEnds acts)

end State.RentalListOk

/-- Every command answers a state whose Rental List keeps its law. -/
theorem exec_rentalListOk (ok : s.RentalListOk) (i : Instr) : ∃ t, exec i s = .next t ∧ t.RentalListOk := by
  cases i with
  | powerOn retentionGood order => exact ⟨_, rfl, ok.start retentionGood order⟩
  | resetPin hold order => exact ⟨_, rfl, ok.ifPowered ((ok.onlyEnds (.countHeld s _)).start _ order)⟩
  | runTick order => exact ⟨_, rfl, ok.ifPoweredEnds (.tick s order)⟩
  | previewExpiry lane => exact ⟨_, rfl, ok.ifPoweredEnds (.previewTest s lane)⟩
  | unlockExpiry screen => exact ⟨_, rfl, ok.ifPoweredEnds (.unlockTest s screen)⟩
  | lockoutEnd => exact ⟨_, rfl, ok.ifPoweredEnds (.lockoutTest s)⟩
  | lineDown => exact ⟨_, rfl, ok.ifPoweredEnds (.silenceTest s)⟩
  | roomClockSecond order => exact ⟨_, rfl, ok.onlyEnds (.roomSecond s order)⟩
  | keyExpiry slot parity => exact ⟨_, rfl, ok.ifPoweredEnds (.expireHalf s slot parity)⟩
  | rentalExpiry index => exact ⟨_, rfl, ok.ifPoweredEnds (.expireRentalAt s index)⟩
  | eventWindowEdge service => exact ⟨_, rfl, ok.ifPoweredEnds (.edgeTest s _)⟩
  | capPeriodRollover => exact ⟨_, rfl, ok.ifPoweredEnds (.periodTest s)⟩
  | clearCell => exact ⟨_, rfl, ok.ifPoweredEnds (.clearCellAt ..)⟩
  | scrambledCell => exact ⟨_, rfl, ok.ifPoweredEnds (.scrambledCellAt ..)⟩
  | ratingCell => exact ⟨_, rfl, ok.ifPoweredEnds (.ratingCellAt ..)⟩
  | plBreak chars | plFramingError chars => exact ⟨_, rfl, ok.plCharsThenAbort chars⟩
  | plBodyCountAbort chars | plBadCrcFrame chars => exact ⟨_, rfl, ok.plChars chars⟩
  | frameNotForRoom address kind body | plUnknownKind address kind body => exact ⟨_, rfl, ok.plFrame _ []⟩
  | timeSet address body order => exact ⟨_, rfl, ok.plCommand .timeSet address body order⟩
  | lineupBegin address body | lineupEntry address body | lineupCommit address body | priceSet address body
  | keyLoad address body | roomReset address body | checkIn address body | checkOut address body
  | roomUpdate address body | statusPoll address body | collect address body | confirm address body
  | decline address body | waive address body | revoke address body | screenShutdown address body
  | screenRestore address body | pinClear address body => exact ⟨_, rfl, ok.plCommand _ address body []⟩
  | plReplySend | plReplyComplete =>
    refine ⟨_, rfl, ok.ifPoweredEnds ?_⟩
    dsimp only
    split
    · exact .same rfl
    · exact .refl s
  | replyAbandoned char => exact ⟨_, rfl, ok.plChar char⟩
  | mlBreak chars | mlFramingError chars => exact ⟨_, rfl, ok.ifPowered (ok.mlChars chars).mlAbort⟩
  | mlLengthAbort chars | mlBadCrcFrame chars => exact ⟨_, rfl, ok.ifPowered (ok.mlChars chars)⟩
  | mlGoodFrame kind tag body =>
    have hunting : (s.setMlRx .hunting).RentalListOk := ok.onlyEnds (.same rfl)
    exact ⟨_, rfl, ok.ifPowered (hunting.arrive _)⟩
  | transmitComplete => exact ⟨_, rfl, ok.ifPowered ok.transmitNext⟩
  | mlUnknownRequest kind tag body => exact ⟨_, rfl, ok.ifPowered (ok.takeMlFrame _)⟩
  | identify tag body | status tag body | tune tag body | untune tag body | screenReport tag body
  | lineupRead tag body | purchase tag body | cancelRental tag body | rentalsRead tag body | chargesRead tag body
  | unlock tag body | relock tag body | setCeilings tag body | setPin tag body | noticesRead tag body
  | noticeModes tag body | setRoomAddress tag body | restart tag body =>
    exact ⟨_, rfl, ok.ifPowered (ok.takeMlFrame _)⟩
  | restartTakesEffect =>
    exact ⟨_, rfl, ok.ifPowered (.ite ok.transmitNext ok)⟩
  | powerLoss => exact ⟨_, rfl, ok.onlyEnds (.same rfl)⟩

end Sys2Proof.Machine
end

section
/-! PROOFS. The law of the Rental List (R112). -/

namespace Sys2Proof.Machine

/-- Settles O8: a step idles or takes the front command, which keeps the law; the queue of commands is nothing to it. -/
theorem theRentalListKeepsItsLaw : Obligations.TheRentalListKeepsItsLaw := by
  intro s t ok stepped
  unfold step at stepped
  split at stepped
  · rw [← Host.Outcome.next.inj stepped]
    exact ok
  next c rest _ =>
    have taken : ({ s with pending := rest } : State).RentalListOk := ok
    obtain ⟨u, answers, kept⟩ := exec_rentalListOk taken c
    rw [← Host.Outcome.next.inj (answers.symm.trans stepped)]
    exact kept

end Sys2Proof.Machine
end

section
/-! SUPPORT. The operations that leave the Charge Queue: all but a purchase, a cancel, the folio exchange and a cold start. -/

namespace Sys2Proof.Machine

variable {t : State} (s : State)

/-- A fold of updates each of which leaves the queue leaves it. -/
theorem foldl_charges {α : Type} {f : State → α → State} (h : ∀ s a, (f s a).charges = s.charges) :
    ∀ (as : List α) (s : State), (as.foldl f s).charges = s.charges
  | [], _ => rfl
  | a :: as, s => (foldl_charges h as (f s a)).trans (h s a)

/-! ### Admissions -/

/-- What an admission can reach leaves the queue (R47 to R55). -/
theorem Viewing.charges_eq {s : State} (h : Viewing s t) : t.charges = s.charges := by
  obtain ⟨-, -, -, -, -, -, -, -, charges, -⟩ := h.fields
  exact charges

@[simp] theorem State.admitLane_charges (n : Screen) : (s.admitLane n).charges = s.charges :=
  (Viewing.admitLane s n).charges_eq

@[simp] theorem State.admitEach_charges (order : List Screen) : (s.admitEach order).charges = s.charges :=
  (Viewing.admitEach s order).charges_eq

@[simp] theorem State.admitAll_charges : s.admitAll.charges = s.charges := (Viewing.admitAll s).charges_eq

@[simp] theorem State.admitTuned_charges (service : Nat) (order : List Screen) :
    (s.admitTuned service order).charges = s.charges :=
  (Viewing.admitTuned s service order).charges_eq

@[simp] theorem State.release_charges (n : Screen) : (s.release n).charges = s.charges :=
  (Viewing.release s n).charges_eq

/-! ### Lanes and screens -/

@[simp] theorem State.setKeyMiss_charges (n : Screen) (miss : Bool) : (s.setKeyMiss n miss).charges = s.charges := by
  rw [(s.setKeyMiss_frame n miss).1]

@[simp] theorem State.tuneTo_charges (n : Screen) (service : Nat) : (s.tuneTo n service).charges = s.charges := by
  simp [State.tuneTo, State.retune]

@[simp] theorem State.untuneLane_charges (n : Screen) : (s.untuneLane n).charges = s.charges := by
  unfold State.untuneLane
  dsimp only
  split <;> simp [State.raiseLane]

@[simp] theorem State.untuneAll_charges : s.untuneAll.charges = s.charges :=
  foldl_charges State.untuneLane_charges screens s

@[simp] theorem State.expirePreview_charges (n : Screen) : (s.expirePreview n).charges = s.charges := by
  unfold State.expirePreview
  dsimp only
  split <;> simp

@[simp] theorem State.endUnlock_charges (n : Screen) : (s.endUnlock n).charges = s.charges := by
  simp [State.endUnlock]

@[simp] theorem State.setShutdown_charges (value : Bool) (named : List Screen) :
    (s.setShutdown value named).charges = s.charges :=
  foldl_charges (fun s n => s.setLane_charges n _) named s

@[simp] theorem State.shutdownScreens_charges (value : Bool) (named : List Screen) :
    (s.shutdownScreens value named).charges = s.charges := by
  simp [State.shutdownScreens]

@[simp] theorem State.dropPreviews_charges : s.dropPreviews.charges = s.charges :=
  foldl_charges (fun s n => s.setLane_charges n _) screens s

@[simp] theorem State.resetLane_charges (n : Screen) : (s.resetLane n).charges = s.charges :=
  (Viewing.resetLane s n).charges_eq

@[simp] theorem State.resetRoom_charges : s.resetRoom.charges = s.charges := by
  simp [State.resetRoom, State.resetScreens]

/-! ### The lock -/

@[simp] theorem State.changePin_charges (pin : Option Nat) : (s.changePin pin).charges = s.charges := by
  simp [State.changePin, State.raisePin]

@[simp] theorem State.setFailures_charges (count : Nat) : (s.setFailures count).charges = s.charges := by
  unfold State.setFailures
  split <;> rfl

@[simp] theorem State.wrongPin_charges : s.wrongPin.charges = s.charges := by
  unfold State.wrongPin
  split <;> rfl

theorem State.pinAttempt_charges (pin carried : Nat) : (s.pinAttempt pin carried).1.charges = s.charges := by
  unfold State.pinAttempt
  split
  · rfl
  · split <;> simp

theorem State.judgePin_fst_charges (required : Bool) (carried : Option Nat) :
    (s.judgePin required carried).1.charges = s.charges := by
  unfold State.judgePin
  split
  · rfl
  · split
    · rfl
    · exact s.pinAttempt_charges ..

/-- A judged PIN, refused or not, leaves the queue (R74, R76). -/
theorem State.judgePin_charges {s : State} {required : Bool} {carried : Option Nat} {refusal : Option Result}
    (judged : s.judgePin required carried = (t, refusal)) : t.charges = s.charges := by
  simpa only [judged] using s.judgePin_fst_charges required carried

/-! ### Cells, keys and the line-up -/

@[simp] theorem State.clearCellAt_charges (n : Screen) (c : Cell) : (s.clearCellAt n c).charges = s.charges := by
  unfold State.clearCellAt
  split <;> simp

@[simp] theorem State.scrambledCellAt_charges (n : Screen) (p : Parity) (c : Cell) :
    (s.scrambledCellAt n p c).charges = s.charges := by
  unfold State.scrambledCellAt
  split
  · split <;> simp [State.decodeFrom]
  · rfl

@[simp] theorem State.ratingCellAt_charges (n : Screen) (c : Cell) : (s.ratingCellAt n c).charges = s.charges := by
  unfold State.ratingCellAt
  split <;> simp

@[simp] theorem State.expireHalves_charges : s.expireHalves.charges = s.charges :=
  foldl_charges (fun s k => by simp [State.expireHalf]) slots s

@[simp] theorem State.loadKey_charges (k : KeyLoad) : (s.loadKey k).charges = s.charges := by
  unfold State.loadKey
  split <;> rfl

@[simp] theorem State.stageEntry_charges (e : LineupEntry) : (s.stageEntry e).charges = s.charges := by
  rw [s.stageEntry_onlyStages e]

@[simp] theorem State.resetRatings_charges : s.resetRatings.charges = s.charges := by
  refine foldl_charges (fun s n => ?_) screens s
  split <;> rfl

@[simp] theorem State.commitLineup_charges (generation count : Nat) :
    (s.commitLineup generation count).charges = s.charges := by
  unfold State.commitLineup
  split
  · rfl
  · rfl
  · split
    · simp [State.acceptLineup, State.raiseLineup]
    · rfl

/-! ### Rentals and the room -/

@[simp] theorem State.endRental_charges (index : Fin 8) : (s.endRental index).charges = s.charges := by
  cases held : s.rentalAt index with
  | none => rw [s.endRental_none index held]
  | some r =>
    obtain ⟨⟨only, -⟩, -⟩ := s.endRental_view index (Option.isSome_of_eq_some held)
    rw [only]

@[simp] theorem State.endRentals_charges (indices : List (Fin 8)) : (s.endRentals indices).charges = s.charges :=
  foldl_charges State.endRental_charges indices s

@[simp] theorem State.expireRentals_charges : s.expireRentals.charges = s.charges := s.endRentals_charges _

@[simp] theorem State.expireRentalAt_charges (index : Fin 8) : (s.expireRentalAt index).charges = s.charges := by
  unfold State.expireRentalAt
  split
  · rfl
  · split <;> simp

@[simp] theorem State.endRentalOfCharge_charges (n : Nat) : (s.endRentalOfCharge n).charges = s.charges := by
  unfold State.endRentalOfCharge
  split <;> simp

@[simp] theorem State.closeIfEmpty_charges : s.closeIfEmpty.charges = s.charges := by
  unfold State.closeIfEmpty
  split <;> rfl

@[simp] theorem State.withTotals_charges (r : RoomRecord) : (s.withTotals r).charges = s.charges := by
  unfold State.withTotals
  dsimp only
  split <;> rfl

@[simp] theorem State.refreshStay_charges (terms : StayTerms) : (s.refreshStay terms).charges = s.charges := by
  simp [State.refreshStay, State.storeTerms, State.raiseRoom]

@[simp] theorem State.updateRoom_charges (terms : StayTerms) : (s.updateRoom terms).charges = s.charges := by
  unfold State.updateRoom
  split
  · simp
  · rfl

@[simp] theorem State.closeStay_charges : s.closeStay.charges = s.charges := by
  simp [State.closeStay, State.endAllRentals, State.raiseRoom]

@[simp] theorem State.openStay_charges (c : CheckIn) : (s.openStay c).charges = s.charges := by
  simp [State.openStay, State.storePin, State.raisePin, State.raiseRoom]

@[simp] theorem State.checkInRoom_charges (c : CheckIn) : (s.checkInRoom c).charges = s.charges := by
  unfold State.checkInRoom
  split
  · rfl
  · split
    · split <;> simp
    · simp

@[simp] theorem State.checkOutRoom_charges : s.checkOutRoom.charges = s.charges := by
  unfold State.checkOutRoom
  split <;> simp

/-! ### The two time bases -/

@[simp] theorem State.periodTest_charges : s.periodTest.charges = s.charges := by
  unfold State.periodTest
  split <;> rfl

@[simp] theorem State.startPeriod_charges : s.startPeriod.charges = s.charges := by
  unfold State.startPeriod
  split <;> rfl

/-- The cap period at a TIME_SET and at a warm start (R100, R101). -/
theorem State.periodTask_charges :
    (if s.room.period.isNone then s.startPeriod else s.periodTest).charges = s.charges := by
  split <;> simp

@[simp] theorem State.edgeTest_charges (service : Nat) : (s.edgeTest service).charges = s.charges := by
  unfold State.edgeTest
  split <;> simp

theorem State.admitOnEdge_charges (n : Screen) : (s.admitOnEdge n).charges = s.charges := by
  unfold State.admitOnEdge
  split <;> simp

theorem State.secondTask_charges (task : ClockTask) : (s.secondTask task).charges = s.charges := by
  cases task with
  | metering | clockNotice => rfl
  | keyHalves => exact s.expireHalves_charges
  | rentalEnds => exact s.expireRentals_charges
  | capPeriod => exact s.periodTest_charges
  | windows => exact foldl_charges State.admitOnEdge_charges screens s

theorem State.setTask_charges (jump : Jump) (s : State) (task : ClockTask) : (s.setTask jump task).charges = s.charges := by
  cases task with
  | metering | clockNotice => rfl
  | keyHalves => exact s.expireHalves_charges
  | rentalEnds => exact s.expireRentals_charges
  | capPeriod => exact s.periodTask_charges
  | windows => exact s.admitAll_charges

theorem State.startTask_charges (task : ClockTask) : (s.startTask task).charges = s.charges := by
  cases task with
  | rentalEnds => exact s.expireRentals_charges
  | capPeriod => exact s.periodTask_charges
  | metering | keyHalves | windows | clockNotice => rfl

@[simp] theorem State.roomSecond_charges (order : List ClockTask) : (s.roomSecond order).charges = s.charges := by
  unfold State.roomSecond
  split
  · dsimp only
    split
    · exact foldl_charges State.secondTask_charges _ _
    · rfl
  · rfl

@[simp] theorem State.setTime_charges (time : Nat) (order : List ClockTask) :
    (s.setTime time order).charges = s.charges :=
  foldl_charges (State.setTask_charges _) _ _

@[simp] theorem State.previewTest_charges (n : Screen) : (s.previewTest n).charges = s.charges := by
  unfold State.previewTest
  split <;> simp

@[simp] theorem State.unlockTest_charges (n : Screen) : (s.unlockTest n).charges = s.charges := by
  unfold State.unlockTest
  split
  · split <;> simp
  · rfl

@[simp] theorem State.lockoutTest_charges : s.lockoutTest.charges = s.charges := by
  unfold State.lockoutTest
  split <;> rfl

@[simp] theorem State.silenceTest_charges : s.silenceTest.charges = s.charges := by
  unfold State.silenceTest
  split <;> rfl

theorem State.timerTest_charges (timer : RunTimer) : (s.timerTest timer).charges = s.charges := by
  cases timer with
  | preview n => exact s.previewTest_charges n
  | unlock n => exact s.unlockTest_charges n
  | lockout => exact s.lockoutTest_charges
  | silence => exact s.silenceTest_charges

@[simp] theorem State.tick_charges (order : List RunTimer) : (s.tick order).charges = s.charges :=
  foldl_charges State.timerTest_charges _ _

/-! ### Starts -/

/-- A warm start retains the queue (R108). -/
theorem State.warmBlocks_charges (order : List ClockTask) : (s.warmBlocks order).charges = s.charges := by
  unfold State.warmBlocks
  dsimp only
  split
  · exact foldl_charges State.startTask_charges _ _
  · rfl

/-- A cold start empties it (R109). -/
theorem State.coldBlocks_charges : s.coldBlocks.charges = .cold := by
  unfold State.coldBlocks
  dsimp only
  split <;> rfl

theorem State.countHeld_charges (seconds : Nat) : (s.countHeld seconds).charges = s.charges := by
  unfold State.countHeld
  split <;> rfl

theorem State.takeRestart_charges : s.takeRestart.charges = s.charges := by
  simp [State.takeRestart, State.raiseStart]

/-! ### The two links -/

@[simp] theorem State.finishTx_charges : s.finishTx.charges = s.charges := by
  unfold State.finishTx
  split
  · exact s.takeRestart_charges
  · rfl

@[simp] theorem State.addAnswer_charges (reply : MlReply) : (s.addAnswer reply).charges = s.charges := by
  unfold State.addAnswer
  split <;> rfl

@[simp] theorem State.offer_charges (f : MlFrame) : (s.offer f).charges = s.charges := by
  unfold State.offer
  split
  · rfl
  · exact s.addAnswer_charges _

@[simp] theorem State.hearFrame_charges : s.hearFrame.charges = s.charges := by
  rw [s.hearFrame_eq]

@[simp] theorem State.abandonReply_charges : s.abandonReply.charges = s.charges := by
  unfold State.abandonReply
  split <;> rfl

@[simp] theorem State.plAbort_charges : s.plAbort.charges = s.charges := by
  unfold State.plAbort
  split <;> simp

/-! ### Requests -/

theorem State.tuneRequest_charges (screen service : Nat) : (s.tuneRequest screen service).1.charges = s.charges := by
  unfold State.tuneRequest
  split
  · rfl
  · split <;> simp [State.reportAnswer]

theorem State.untuneRequest_charges (screen : Nat) : (s.untuneRequest screen).1.charges = s.charges := by
  unfold State.untuneRequest
  split <;> simp [State.reportAnswer]

theorem State.reportRequest_charges (screen : Nat) : (s.reportRequest screen).1.charges = s.charges := by
  unfold State.reportRequest
  split <;> rfl

theorem State.unlockRequest_charges (screen : Nat) (carried : Option Nat) :
    (s.unlockRequest screen carried).1.charges = s.charges := by
  unfold State.unlockRequest
  split
  · rfl
  · split
    · rfl
    · split
      next judged => exact State.judgePin_charges judged
      next judged => simpa [State.reportAnswer, State.grantUnlock] using State.judgePin_charges judged

theorem State.relockRequest_charges (screen : Nat) : (s.relockRequest screen).1.charges = s.charges := by
  unfold State.relockRequest
  split
  · rfl
  · split <;> simp [State.reportAnswer]

theorem State.ceilingsRequest_charges (screen : Nat) (quad : Rating) (carried : Option Nat) :
    (s.ceilingsRequest screen quad carried).1.charges = s.charges := by
  unfold State.ceilingsRequest
  split
  · rfl
  · split
    next judged => exact State.judgePin_charges judged
    next judged => simpa [State.reportAnswer] using State.judgePin_charges judged

theorem State.setPinRequest_charges (newPin oldPin : Option Nat) :
    (s.setPinRequest newPin oldPin).1.charges = s.charges := by
  unfold State.setPinRequest
  split
  next judged => exact State.judgePin_charges judged
  next judged => simpa using State.judgePin_charges judged

theorem State.addressRequest_charges (address : Nat) : (s.addressRequest address).1.charges = s.charges := by
  unfold State.addressRequest
  split
  · rfl
  · dsimp only
    split <;> rfl

end Sys2Proof.Machine
end

section
/-! SUPPORT. The operations that write the Charge Queue: the folio exchange, which adds no entry (R150 to R154), a purchase
and a cancel (R115, R126, R147). -/

namespace Sys2Proof.Machine

variable {s t : State}

/-! ### The folio exchange -/

theorem State.collectHead_length (s : State) : s.collectHead.charges.entries.length = s.charges.entries.length := by
  unfold State.collectHead
  split
  · rfl
  next entries =>
    split
    · simp [State.setEntries, entries]
    · rfl

theorem State.confirmCharge_length_le (s : State) (n : Nat) :
    (s.confirmCharge n).1.charges.entries.length ≤ s.charges.entries.length := by
  unfold State.confirmCharge
  split
  · exact le_rfl
  · split
    · exact le_rfl
    next entries =>
      split
      · simp [State.setEntries, entries]
      · exact le_rfl

theorem State.declineCharge_length (s : State) (n : Nat) :
    (s.declineCharge n).1.charges.entries.length = s.charges.entries.length := by
  unfold State.declineCharge
  split
  · rfl
  · split
    · rfl
    next entries =>
      split
      · rfl
      · split
        · simp [State.setEntries, State.raiseBilling, entries]
        · rfl

/-- A settlement takes the head off, and the CREDITs that refer to it (R153). -/
theorem State.settleCharge_length_le (s : State) (head : QueueEntry) :
    (s.settleCharge head).charges.entries.length ≤ s.charges.entries.length := by
  rw [State.settleCharge, State.withTotals_charges]
  exact (List.length_filter_le ..).trans (by simp)

theorem State.waiveCharge_length_le (s : State) (n : Nat) :
    (s.waiveCharge n).1.charges.entries.length ≤ s.charges.entries.length := by
  unfold State.waiveCharge
  split
  · exact le_rfl
  next head _ => simpa [State.endHold, State.raiseBilling, State.markWaived] using s.settleCharge_length_le head

theorem State.revokeCharge_length_le (s : State) (n : Nat) :
    (s.revokeCharge n).1.charges.entries.length ≤ s.charges.entries.length := by
  unfold State.revokeCharge
  split
  · exact le_rfl
  next head _ => simpa [State.endHold, State.raiseBilling] using s.settleCharge_length_le head

/-- No command of the head-end adds an entry. -/
theorem State.plAct_length_le (s : State) (kind : PlKind) (body : List Byte) (order : List ClockTask) :
    (s.plAct kind body order).1.charges.entries.length ≤ s.charges.entries.length := by
  cases kind with
  | collect => exact s.collectHead_length.le
  | confirm => exact s.confirmCharge_length_le _
  | decline => exact (s.declineCharge_length _).le
  | waive => exact s.waiveCharge_length_le _
  | revoke => exact s.revokeCharge_length_le _
  | lineupBegin | priceSet | statusPoll => exact le_rfl
  | lineupEntry | lineupCommit | keyLoad | timeSet | roomReset | checkIn | checkOut | roomUpdate | screenShutdown
  | screenRestore | pinClear => simp [State.plAct]

/-! ### Refusals -/

/-- A request refused: its result is not OK and the queue stands as it was (R113, R125). -/
structure RefusedAt (s : State) (out : State × Answer) : Prop where
  result : out.2.1 ≠ .ok
  queue : out.1.charges = s.charges

/-- A request refused before anything is judged that can change the state. -/
theorem RefusedAt.at_once {result : Result} {reply : ReplyBody} (notOk : result ≠ .ok) : RefusedAt s (s, result, reply) :=
  ⟨notOk, rfl⟩

theorem State.judgePin_ne_ok (s : State) (required : Bool) (carried : Option Nat) :
    (s.judgePin required carried).2 ≠ some .ok := by
  unfold State.judgePin
  split
  · simp
  · split
    · simp
    · unfold State.pinAttempt
      split
      · simp
      · split <;> simp

/-- A request refused by its PIN (R74, R76). -/
theorem RefusedAt.of_judgePin {required : Bool} {carried : Option Nat} {refusal : Result}
    (judged : s.judgePin required carried = (t, some refusal)) : RefusedAt s (t, refusal, .none) := by
  refine ⟨?_, State.judgePin_charges judged⟩
  rintro rfl
  exact s.judgePin_ne_ok required carried (by rw [judged])

theorem State.judgeLock_ne_ok (s : State) (n : Screen) (e : LineupEntry) (right : Bool) :
    s.judgeLock n e right ≠ .error .ok := by
  unfold State.judgeLock
  split
  · simp
  · split
    · simp
    · split
      · simp
      · split <;> simp

theorem State.judgeMoney_ne_ok (s : State) (amount : Nat) : s.judgeMoney amount ≠ some .ok := by
  unfold State.judgeMoney
  split
  · simp
  · split
    · simp
    · split <;> simp

theorem State.judgeTerms_ne_ok (s : State) (sale : Sale) : s.judgeTerms sale ≠ some .ok := by
  unfold State.judgeTerms
  split
  · simp
  · split
    · simp
    · split <;> simp

theorem State.judgeCancel_ne_ok (s : State) (r : Rental) : s.judgeCancel r ≠ some .ok := by
  unfold State.judgeCancel
  split
  · simp
  · split
    · simp
    · split
      · split <;> simp
      · simp

/-! ### Purchase -/

/-- A purchase accepted, of this rental: an amount adds one entry to a queue of fewer than 8, an amount of 0 none (R115,
R147). -/
structure SoldAt (s : State) (out : State × Answer) (r : Rental) : Prop where
  answer : out.2 = (.ok, r.purchaseBody)
  charged : 0 < r.amount →
    s.charges.entries.length < chargeLimit ∧ out.1.charges.entries.length = s.charges.entries.length + 1
  free : r.amount = 0 → out.1.charges = s.charges

/-- A new entry joins the end (R144). -/
theorem State.enqueue_length (s : State) (kind : ChargeKind) (service amount tax : Nat) :
    (s.enqueue kind service amount tax).charges.entries.length = s.charges.entries.length + 1 :=
  List.length_append

/-- After its booking a sale leaves the queue (R115). -/
theorem State.acceptSale_charges (s : State) (n : Screen) (sale : Sale) (grant : Bool) :
    (s.acceptSale n sale grant).charges =
      if 0 < s.saleAmount sale then
        (s.enqueue .charge sale.entry.service (s.saleAmount sale) s.room.terms.tax).charges
      else s.charges := by
  have booked : (s.bookSale sale).charges = if 0 < s.saleAmount sale then
      (s.enqueue .charge sale.entry.service (s.saleAmount sale) s.room.terms.tax).charges else s.charges := by
    unfold State.bookSale
    dsimp only
    split <;> rfl
  rw [← booked]
  unfold State.acceptSale
  dsimp only
  generalize s.bookSale sale = u
  have granted : (if grant ∧ (s.lane n).tuned = some sale.entry.service then u.grantUnlock n sale.entry.service
      else u).charges = u.charges := by
    split <;> rfl
  split <;> simp [State.raiseRoom, State.raiseRentals, granted]

/-- A sale for money is not made while the queue holds 8 (R113 check 12). -/
theorem State.lt_chargeLimit_of_judgeMoney {amount : Nat} (passed : s.judgeMoney amount = none) (money : 0 < amount) :
    s.charges.entries.length < chargeLimit := by
  by_contra full
  have creditFull : s.judgeMoney amount = some .creditFull := if_pos ⟨money, not_lt.mp full⟩
  rw [creditFull] at passed
  cases passed

theorem State.acceptSale_soldAt {sale : Sale} (passed : s.judgeMoney (s.saleAmount sale) = none) (n : Screen)
    (grant : Bool) :
    SoldAt s (s.acceptSale n sale grant, .ok, s.saleBody sale)
      (s.newRental sale (if 0 < s.saleAmount sale then some s.nextNumber else none)) where
  answer := rfl
  charged (money : 0 < s.saleAmount sale) := by
    refine ⟨State.lt_chargeLimit_of_judgeMoney passed money, ?_⟩
    rw [State.acceptSale_charges, if_pos money, State.enqueue_length]
  free nothing := by
    have noMoney : ¬ 0 < s.saleAmount sale := (Nat.eq_zero_of_le_zero nothing.le).not_gt
    rw [State.acceptSale_charges, if_neg noMoney]

theorem State.judgeSale_outcome (s : State) (n : Screen) (sale : Sale) (carried : Option Nat) :
    RefusedAt s (s.judgeSale n sale carried) ∨ ∃ r, SoldAt s (s.judgeSale n sale carried) r := by
  unfold State.judgeSale
  split
  next judged => exact .inl (.of_judgePin judged)
  next s1 judged =>
    have queue : s1.charges = s.charges := State.judgePin_charges judged
    split
    next locked => exact .inl ⟨fun ok => s1.judgeLock_ne_ok _ _ _ (locked.trans (congrArg Except.error ok)), queue⟩
    · split
      next refused => exact .inl ⟨fun ok => s1.judgeMoney_ne_ok _ (refused.trans (congrArg some ok)), queue⟩
      next passed =>
        obtain ⟨answer, charged, free⟩ := State.acceptSale_soldAt passed n _
        rw [queue] at charged free
        exact .inr ⟨_, answer, charged, free⟩

/-- A PURCHASE is refused, or sells (R113 to R117). -/
theorem State.purchaseRequest_outcome (s : State) (screen service : Nat) (carried : Option Nat) :
    RefusedAt s (s.purchaseRequest screen service carried) ∨
      ∃ r, SoldAt s (s.purchaseRequest screen service carried) r := by
  unfold State.purchaseRequest
  split
  · exact .inl (.at_once (by decide))
  · split
    · exact .inl (.at_once (by decide))
    · split
      · exact .inl (.at_once (by decide))
      · split
        · exact .inl (.at_once (by decide))
        · split
          · exact .inl (.at_once (by decide))
          · split
            · exact .inl (.at_once (by decide))
            · split
              · exact .inl (.at_once (by decide))
              · split
                next refused => exact .inl (.at_once fun ok => s.judgeTerms_ne_ok _ (refused.trans (congrArg some ok)))
                · exact s.judgeSale_outcome ..

/-! ### Cancel -/

/-- A cancel accepted: a CREDIT adds one entry to a queue of fewer than 12, and without one none is added (R126, R147). -/
structure CancelledAt (s : State) (out : State × Answer) (r : Rental) (amount : Nat) (credit : Option Nat) : Prop where
  answer : out.2 = (.ok, .cancel r.service amount credit)
  credited : credit.isSome = true →
    s.charges.entries.length < queueCapacity ∧ out.1.charges.entries.length = s.charges.entries.length + 1
  uncredited : credit = none → out.1.charges.entries.length ≤ s.charges.entries.length

/-- After its queue's side a cancel leaves the queue (R126). -/
theorem State.acceptCancel_charges (s : State) (r : Rental) : (s.acceptCancel r).charges = (s.cancelQueue r).charges := by
  unfold State.acceptCancel
  dsimp only
  split <;> simp [State.raiseRoom]

/-- A CREDIT is not made while the queue holds 12 (R125 check 5). -/
theorem State.lt_queueCapacity_of_judgeCancel {r : Rental} {number : Nat} (passed : s.judgeCancel r = none)
    (credit : s.cancelCase r = .credit number) : s.charges.entries.length < queueCapacity := by
  unfold State.judgeCancel at passed
  split at passed
  · cases passed
  · split at passed
    · cases passed
    · by_contra full
      have queueFull : queueCapacity ≤ s.queueLength := not_lt.mp full
      simp [credit, queueFull] at passed

theorem State.acceptCancel_cancelledAt {r : Rental} (passed : s.judgeCancel r = none) :
    CancelledAt s (s.acceptCancel r, .ok, .cancel r.service (s.cancelAmount r) (s.creditNumber r)) r (s.cancelAmount r)
      (s.creditNumber r) := by
  refine { answer := rfl, credited := ?credited, uncredited := ?uncredited }
  all_goals
    dsimp only
    rw [State.acceptCancel_charges, State.creditNumber, State.cancelQueue]
  case credited =>
    cases kind : s.cancelCase r with
    | nothing | withdraw => simp
    | credit => exact fun _ => ⟨State.lt_queueCapacity_of_judgeCancel passed kind, s.enqueue_length ..⟩
  case uncredited =>
    cases s.cancelCase r with
    | nothing => exact fun _ => le_rfl
    | withdraw => exact fun _ => List.length_filter_le ..
    | credit => simp

/-- A CANCEL_RENTAL is refused, or ends its rental (R125, R126). -/
theorem State.cancelRequest_outcome (s : State) (index : Nat) (carried : Option Nat) :
    RefusedAt s (s.cancelRequest index carried) ∨
      ∃ r amount credit, CancelledAt s (s.cancelRequest index carried) r amount credit := by
  unfold State.cancelRequest
  split
  · exact .inl (.at_once (by decide))
  · split
    · exact .inl (.at_once (by decide))
    · split
      next judged => exact .inl (.of_judgePin judged)
      next s1 judged =>
        have queue : s1.charges = s.charges := State.judgePin_charges judged
        split
        next refused => exact .inl ⟨fun ok => s1.judgeCancel_ne_ok _ (refused.trans (congrArg some ok)), queue⟩
        next passed =>
          obtain ⟨answer, credited, uncredited⟩ := State.acceptCancel_cancelledAt passed
          rw [queue] at credited uncredited
          exact .inr ⟨_, _, _, answer, credited, uncredited⟩

/-! ### Requests -/

/-- No other request writes the queue. -/
theorem State.mlAct_charges (s : State) {kind : MlKind} (notPurchase : kind ≠ .purchase) (notCancel : kind ≠ .cancelRental)
    (body : List Byte) : (s.mlAct kind body).1.charges = s.charges := by
  cases kind with
  | purchase => exact absurd rfl notPurchase
  | cancelRental => exact absurd rfl notCancel
  | identify | status | lineupRead | rentalsRead | chargesRead | restart | noticesRead | noticeModes => rfl
  | tune => exact s.tuneRequest_charges ..
  | untune => exact s.untuneRequest_charges _
  | screenReport => exact s.reportRequest_charges _
  | unlock => exact s.unlockRequest_charges ..
  | relock => exact s.relockRequest_charges _
  | setCeilings => exact s.ceilingsRequest_charges ..
  | setPin => exact s.setPinRequest_charges ..
  | setRoomAddress => exact s.addressRequest_charges _

end Sys2Proof.Machine
end

section
/-! SUPPORT. A law of the Charge Queue that a cold start, the requests and the commands keep is kept by every step: what either
link or a start brings about, said once for every such law. -/

namespace Sys2Proof.Machine

variable {s : State} {law : ChargeQueue → Prop}

/-- A law of the Charge Queue that holds at a cold start, and that every request and every command keeps. -/
structure QueueLaw (law : ChargeQueue → Prop) : Prop where
  cold : law .cold
  request : ∀ (s : State) (kind : MlKind) (body : List Byte), law s.charges → law (s.mlAct kind body).1.charges
  command : ∀ (s : State) (kind : PlKind) (body : List Byte) (order : List ClockTask), law s.charges →
    law (s.plAct kind body order).1.charges

/-- What only a part with its supply does (R108). -/
theorem ifPowered_keeps (ok : law s.charges) {f : State → State} (acts : law (f s).charges) :
    law (s.ifPowered f).charges := by
  unfold State.ifPowered
  split
  · exact acts
  · exact ok

/-- An event that leaves the queue, of a part with its supply. -/
theorem ifPowered_leaves (ok : law s.charges) {f : State → State} (same : (f s).charges = s.charges) :
    law (s.ifPowered f).charges :=
  ifPowered_keeps ok (same ▸ ok)

/-- A fold of updates each of which keeps the law keeps it. -/
theorem foldl_keeps {α : Type} {f : State → α → State} (h : ∀ s a, law s.charges → law (f s a).charges) :
    ∀ (as : List α) {s : State}, law s.charges → law (as.foldl f s).charges
  | [], _, ok => ok
  | a :: as, s, ok => foldl_keeps h as (h s a ok)

namespace QueueLaw

/-! ### Starts -/

theorem start (kept : QueueLaw law) (ok : law s.charges) (retentionGood : Bool) (order : List ClockTask) :
    law (s.start retentionGood order).charges := by
  unfold State.start
  split
  · show law (s.warmBlocks order).charges
    rwa [State.warmBlocks_charges]
  · show law s.coldBlocks.charges
    rw [State.coldBlocks_charges]
    exact kept.cold

/-! ### The media link -/

theorem judgeFrame (kept : QueueLaw law) (ok : law s.charges) (f : MlFrame) : law (s.judgeFrame f).1.charges := by
  unfold State.judgeFrame
  split
  · exact ok
  · unfold State.judgeRequest
    split
    · exact kept.request s _ f.body ok
    · exact ok

theorem chooseNext (kept : QueueLaw law) (ok : law s.charges) : law s.chooseNext.charges := by
  unfold State.chooseNext
  split
  · exact ok
  · split
    next f _ _ => exact kept.judgeFrame (s := s.setBuffer []) ok f
    · exact ok

theorem chooseIfIdle (kept : QueueLaw law) (ok : law s.charges) : law s.chooseIfIdle.charges := by
  unfold State.chooseIfIdle
  split
  · exact kept.chooseNext ok
  · exact ok

theorem transmitNext (kept : QueueLaw law) (ok : law s.charges) : law s.transmitNext.charges :=
  kept.chooseNext (s.finishTx_charges ▸ ok)

theorem arrive (kept : QueueLaw law) (ok : law s.charges) (f : MlFrame) : law (s.arrive f).charges :=
  kept.chooseIfIdle (s.offer_charges f ▸ ok)

theorem answerBadFrame (kept : QueueLaw law) (ok : law s.charges) : law s.answerBadFrame.charges :=
  kept.chooseIfIdle (s.addAnswer_charges badFrame ▸ ok)

theorem takeMlFrame (kept : QueueLaw law) (ok : law s.charges) (f : MlFrame) : law (s.takeMlFrame f).charges := by
  unfold State.takeMlFrame
  split
  · exact kept.transmitNext ok
  · exact kept.arrive (kept.transmitNext ok) f

theorem mlChar (kept : QueueLaw law) (ok : law s.charges) (c : Byte) : law (s.mlChar c).charges := by
  have received : law (s.setMlRx (mlRxTake s.link.rx c).1).charges := ok
  unfold State.mlChar
  cases (mlRxTake s.link.rx c).2 with
  | quiet => exact received
  | tooLong | badCrc => exact kept.answerBadFrame received
  | good f => exact kept.arrive received f

theorem mlChars (kept : QueueLaw law) (ok : law s.charges) (chars : List Byte) : law (s.mlChars chars).charges :=
  foldl_keeps (fun _ c ok => kept.mlChar ok c) chars ok

theorem mlAbort (kept : QueueLaw law) (ok : law s.charges) : law s.mlAbort.charges := by
  unfold State.mlAbort
  split
  · exact ok
  · exact kept.answerBadFrame (s := s.setMlRx .hunting) ok

/-! ### The property line -/

theorem takeCommand (kept : QueueLaw law) (ok : law s.charges) (address : Nat) (kind : PlKind) (body : List Byte)
    (order : List ClockTask) : law (s.takeCommand address kind body order).charges := by
  have heard : law s.hearFrame.charges := s.hearFrame_charges ▸ ok
  have acted := kept.command s.hearFrame kind body order heard
  unfold State.takeCommand
  split
  · exact heard
  · unfold State.takeBroadcast
    split
    · exact acted
    · exact heard
  · unfold State.takeAddressed
    split
    · exact acted
    · exact heard

theorem takeFrame (kept : QueueLaw law) (ok : law s.charges) (f : PlFrame) (order : List ClockTask) :
    law (s.takeFrame f order).charges := by
  unfold State.takeFrame
  split
  · exact s.hearFrame_charges ▸ ok
  · exact kept.takeCommand ok ..

theorem plFrame (kept : QueueLaw law) (ok : law s.charges) (f : PlFrame) (order : List ClockTask) :
    law (s.plFrame f order).charges := by
  unfold State.plFrame
  split
  · exact kept.takeFrame ok f order
  · exact ok

theorem plCommand (kept : QueueLaw law) (ok : law s.charges) (kind : PlKind) (address : BitVec 10) (body : List Byte)
    (order : List ClockTask) : law (s.plCommand kind address body order).charges := by
  unfold State.plCommand
  split
  · exact kept.takeCommand ok ..
  · exact ok

theorem plChar (kept : QueueLaw law) (ok : law s.charges) (c : Byte) : law (s.plChar c).charges := by
  have received : law (s.abandonReply.setPlRx (plRxTake s.line.rx c).1).charges := s.abandonReply_charges ▸ ok
  unfold State.plChar
  split
  · dsimp only
    split
    · exact kept.takeFrame received _ []
    · exact received
  · exact ok

theorem plChars (kept : QueueLaw law) (ok : law s.charges) (chars : List Byte) : law (s.plChars chars).charges :=
  foldl_keeps (fun _ c ok => kept.plChar ok c) chars ok

theorem plCharsThenAbort (kept : QueueLaw law) (ok : law s.charges) (chars : List Byte) :
    law (s.plChars chars).plAbort.charges := by
  rw [State.plAbort_charges]
  exact kept.plChars ok chars

/-! ### The commands and the step -/

/-- Every command answers, and keeps the law. -/
theorem exec_keeps (kept : QueueLaw law) (ok : law s.charges) (i : Instr) : ∃ t, exec i s = .next t ∧ law t.charges := by
  cases i with
  | powerOn retentionGood order => exact ⟨_, rfl, kept.start ok retentionGood order⟩
  | resetPin hold order => exact ⟨_, rfl, ifPowered_keeps ok (kept.start (s.countHeld_charges _ ▸ ok) _ order)⟩
  | runTick order => exact ⟨_, rfl, ifPowered_leaves ok (s.tick_charges order)⟩
  | previewExpiry lane => exact ⟨_, rfl, ifPowered_leaves ok (s.previewTest_charges lane)⟩
  | unlockExpiry screen => exact ⟨_, rfl, ifPowered_leaves ok (s.unlockTest_charges screen)⟩
  | lockoutEnd => exact ⟨_, rfl, ifPowered_leaves ok s.lockoutTest_charges⟩
  | lineDown => exact ⟨_, rfl, ifPowered_leaves ok s.silenceTest_charges⟩
  | roomClockSecond order => exact ⟨_, rfl, s.roomSecond_charges order ▸ ok⟩
  | keyExpiry slot parity => exact ⟨_, rfl, ifPowered_leaves ok (s.setHalf_charges ..)⟩
  | rentalExpiry index => exact ⟨_, rfl, ifPowered_leaves ok (s.expireRentalAt_charges index)⟩
  | eventWindowEdge service => exact ⟨_, rfl, ifPowered_leaves ok (s.edgeTest_charges _)⟩
  | capPeriodRollover => exact ⟨_, rfl, ifPowered_leaves ok s.periodTest_charges⟩
  | clearCell => exact ⟨_, rfl, ifPowered_leaves ok (s.clearCellAt_charges ..)⟩
  | scrambledCell => exact ⟨_, rfl, ifPowered_leaves ok (s.scrambledCellAt_charges ..)⟩
  | ratingCell => exact ⟨_, rfl, ifPowered_leaves ok (s.ratingCellAt_charges ..)⟩
  | plBreak chars | plFramingError chars => exact ⟨_, rfl, kept.plCharsThenAbort ok chars⟩
  | plBodyCountAbort chars | plBadCrcFrame chars => exact ⟨_, rfl, kept.plChars ok chars⟩
  | frameNotForRoom address kind body | plUnknownKind address kind body => exact ⟨_, rfl, kept.plFrame ok _ []⟩
  | timeSet address body order => exact ⟨_, rfl, kept.plCommand ok .timeSet address body order⟩
  | lineupBegin address body | lineupEntry address body | lineupCommit address body | priceSet address body
  | keyLoad address body | roomReset address body | checkIn address body | checkOut address body
  | roomUpdate address body | statusPoll address body | collect address body | confirm address body
  | decline address body | waive address body | revoke address body | screenShutdown address body
  | screenRestore address body | pinClear address body => exact ⟨_, rfl, kept.plCommand ok _ address body []⟩
  | plReplySend | plReplyComplete =>
    refine ⟨_, rfl, ifPowered_leaves ok ?_⟩
    dsimp only
    split <;> rfl
  | replyAbandoned char => exact ⟨_, rfl, kept.plChar ok char⟩
  | mlBreak chars | mlFramingError chars => exact ⟨_, rfl, ifPowered_keeps ok (kept.mlAbort (kept.mlChars ok chars))⟩
  | mlLengthAbort chars | mlBadCrcFrame chars => exact ⟨_, rfl, ifPowered_keeps ok (kept.mlChars ok chars)⟩
  | mlGoodFrame kind tag body => exact ⟨_, rfl, ifPowered_keeps ok (kept.arrive (s := s.setMlRx .hunting) ok _)⟩
  | transmitComplete => exact ⟨_, rfl, ifPowered_keeps ok (kept.transmitNext ok)⟩
  | mlUnknownRequest kind tag body => exact ⟨_, rfl, ifPowered_keeps ok (kept.takeMlFrame ok _)⟩
  | identify tag body | status tag body | tune tag body | untune tag body | screenReport tag body
  | lineupRead tag body | purchase tag body | cancelRental tag body | rentalsRead tag body | chargesRead tag body
  | unlock tag body | relock tag body | setCeilings tag body | setPin tag body | noticesRead tag body
  | noticeModes tag body | setRoomAddress tag body | restart tag body =>
    exact ⟨_, rfl, ifPowered_keeps ok (kept.takeMlFrame ok _)⟩
  | restartTakesEffect =>
    refine ⟨_, rfl, ifPowered_keeps ok ?_⟩
    split
    · exact kept.transmitNext ok
    · exact ok
  | powerLoss => exact ⟨_, rfl, ok⟩

/-- A step idles or takes the front command; the queue of commands is nothing to the law. -/
theorem keptByStep (kept : QueueLaw law) : KeptByStep (fun s => law s.charges) := by
  intro s t ok stepped
  unfold step at stepped
  split at stepped
  · rw [← Host.Outcome.next.inj stepped]
    exact ok
  next c rest _ =>
    obtain ⟨u, answers, keeps⟩ := kept.exec_keeps (s := { s with pending := rest }) ok c
    rw [← Host.Outcome.next.inj (answers.symm.trans stepped)]
    exact keeps

end QueueLaw
end Sys2Proof.Machine
end

section
/-! SUPPORT. The queue's capacity kept, and what a PURCHASE and a CANCEL_RENTAL leave at a ready part (R147, R186). -/

namespace Sys2Proof.Machine

variable {s t : State}

/-- The queue holds at most 12 entries: only a purchase, below 8, and a CREDIT, below 12, add one. -/
theorem queueLaw_capacity : QueueLaw (fun queue => queue.entries.length ≤ queueCapacity) where
  cold := by decide
  command s kind body order ok := (s.plAct_length_le kind body order).trans ok
  request s kind body ok := by
    cases kind with
    | purchase =>
      obtain refused | ⟨r, sold⟩ :=
        s.purchaseRequest_outcome (field body 0 1) (serviceOf (field body 1 2)) (carriedPin body 3)
      · exact refused.queue ▸ ok
      · rcases Nat.eq_zero_or_pos r.amount with nothing | money
        · exact sold.free nothing ▸ ok
        · obtain ⟨place, longer⟩ := sold.charged money
          exact longer.trans_le (place.trans (by decide))
    | cancelRental =>
      obtain refused | ⟨r, amount, credit, cancelled⟩ := s.cancelRequest_outcome (field body 0 1) (carriedPin body 1)
      · exact refused.queue ▸ ok
      · cases credit with
        | none => exact (cancelled.uncredited rfl).trans ok
        | some number =>
          obtain ⟨place, longer⟩ := cancelled.credited rfl
          exact longer.trans_le place
    | _ =>
      rw [s.mlAct_charges (by decide) (by decide)]
      exact ok

/-- What a request row leaves at a ready part is its judgement, and the frame sent is the answer judged (R185, R186). -/
theorem judged_of_request {kind : MlKind} {tag : Byte} {body : List Byte} {result : Result} {reply : ReplyBody}
    (ready : s.Ready) (done : exec (kind.request tag body) s = .next t)
    (sent : t.link.tx = .sending ⟨kind.code, tag, result, reply⟩) :
    t.charges = ((s.setTx .idle).judgeRequest kind body).1.charges ∧
      ((s.setTx .idle).judgeRequest kind body).2 = (result, reply) := by
  have ⟨powered, _⟩ := ready
  rw [exec_request, State.ifPowered_of_powered powered, State.takeRequest_of_ready ready] at done
  have taken := Host.Outcome.next.inj done
  refine ⟨by rw [← taken]; rfl, ?_⟩
  rw [← taken] at sent
  simpa [State.send, State.setTx, Prod.ext_iff] using sent

/-- A body of a wrong length is refused (R186 step 2). -/
theorem RefusedAt.of_badLength {kind : MlKind} {body : List Byte} (wrong : body.length ∉ kind.bodyLengths) :
    RefusedAt s (s.judgeRequest kind body) := by
  rw [State.judgeRequest, if_neg wrong]
  exact .at_once (by decide)

/-- What a refusal says of its answer: the queue stands, and nothing was accepted. -/
theorem RefusedAt.of_answer {out : State × Answer} {result : Result} {reply : ReplyBody} {accepted : Prop}
    (refused : RefusedAt s out) (answer : out.2 = (result, reply)) :
    (result ≠ .ok → out.1.charges = s.charges) ∧ (result = .ok → accepted) := by
  have notOk : result ≠ .ok := by
    have given := refused.result
    rwa [answer] at given
  exact ⟨fun _ => refused.queue, fun ok => absurd ok notOk⟩

theorem State.judgePurchase_outcome (s : State) (body : List Byte) :
    RefusedAt s (s.judgeRequest .purchase body) ∨ ∃ r, SoldAt s (s.judgeRequest .purchase body) r := by
  by_cases right : body.length ∈ MlKind.purchase.bodyLengths
  · rw [State.judgeRequest, if_pos right]
    exact s.purchaseRequest_outcome ..
  · exact .inl (.of_badLength right)

theorem State.judgeCancelRental_outcome (s : State) (body : List Byte) :
    RefusedAt s (s.judgeRequest .cancelRental body) ∨
      ∃ r amount credit, CancelledAt s (s.judgeRequest .cancelRental body) r amount credit := by
  by_cases right : body.length ∈ MlKind.cancelRental.bodyLengths
  · rw [State.judgeRequest, if_pos right]
    exact s.cancelRequest_outcome ..
  · exact .inl (.of_badLength right)

end Sys2Proof.Machine
end

section
/-! PROOFS. The bounds of the Charge Queue (R147). -/

namespace Sys2Proof.Machine

/-- Settles O55: `queueLaw_capacity` gives the bound at every step, and the outcomes of a PURCHASE and of a CANCEL_RENTAL
what each does to the queue. -/
theorem theChargeQueueNeverOverfills : Obligations.TheChargeQueueNeverOverfills := by
  refine ⟨queueLaw_capacity.keptByStep, fun s t tag body result reply ready =>
    ⟨fun done sent => ?_, fun done sent => ?_⟩⟩
  · obtain ⟨queue, judged⟩ := judged_of_request (kind := .purchase) ready done sent
    rw [queue]
    obtain refused | ⟨r, sold⟩ := (s.setTx .idle).judgePurchase_outcome body
    · exact refused.of_answer judged
    · obtain ⟨rfl, rfl⟩ := Prod.mk.inj (sold.answer.symm.trans judged)
      refine ⟨fun refused => absurd rfl refused, fun _ i amount capped charge stop body => ?_⟩
      obtain ⟨-, rfl, -⟩ := ReplyBody.purchase.inj body
      exact ⟨sold.charged, sold.free⟩
  · obtain ⟨queue, judged⟩ := judged_of_request (kind := .cancelRental) ready done sent
    rw [queue]
    obtain refused | ⟨r, owed, number, cancelled⟩ := (s.setTx .idle).judgeCancelRental_outcome body
    · exact refused.of_answer judged
    · obtain ⟨rfl, rfl⟩ := Prod.mk.inj (cancelled.answer.symm.trans judged)
      refine ⟨fun refused => absurd rfl refused, fun _ service amount credit body => ?_⟩
      obtain ⟨-, -, rfl⟩ := ReplyBody.cancel.inj body
      exact ⟨cancelled.credited, cancelled.uncredited⟩

end Sys2Proof.Machine
end

section
/-! SUPPORT. Values at receipt are within their ranges (R198, R199): the fields of a body, the terms of a stay, a check-in. -/

namespace Sys2Proof.Machine

theorem generationOf_range {v : Nat} (h : v ≤ 255) : 1 ≤ generationOf v ∧ generationOf v ≤ 255 := by
  unfold generationOf
  omega

theorem field_one_le (body : List Byte) (offset : Nat) : field body offset 1 ≤ 255 :=
  Nat.le_of_lt_succ (field_lt body offset 1)

theorem field_two_le (body : List Byte) (offset : Nat) : field body offset 2 ≤ 65535 :=
  Nat.le_of_lt_succ (field_lt body offset 2)

theorem field_four_le (body : List Byte) (offset : Nat) : field body offset 4 ≤ maxCount :=
  Nat.le_of_lt_succ (field_lt body offset 4)

theorem pinOf_le (v : Nat) : ∀ p ∈ pinOf v, p ≤ 9999 := by
  unfold pinOf
  split <;> simp

theorem addressOf_le (v : Nat) : addressOf v ≤ 1022 := by
  unfold addressOf
  split <;> omega

theorem quadBytes_ok (body : List Byte) (offset : Nat) : (quadBytes body offset).Ok := by
  simp [quadBytes, Rating.Ok]

theorem clamp_range {low high : Nat} (h : low ≤ high) (v : Nat) : low ≤ clamp low high v ∧ clamp low high v ≤ high := by
  unfold clamp
  omega

/-- A price entry received is within its ranges (R17). -/
theorem priceEntryOf_ok (body : List Byte) : (priceEntryOf body).Ok := by
  obtain ⟨hoursLow, hoursHigh⟩ := clamp_range (low := 1) (high := 48) (by decide) (field body 3 1)
  obtain ⟨allowanceLow, allowanceHigh⟩ := clamp_range (low := 1) (high := 4) (by decide) (field body 4 1)
  exact ⟨field_two_le body 1, hoursLow, hoursHigh, allowanceLow, allowanceHigh, Nat.min_le_right _ _⟩

/-- The terms of a stay as received are within their ranges (R88). -/
theorem stayTermsOf_ok (bytes : List Byte) : (stayTermsOf bytes).Ok := by
  obtain ⟨factorLow, factorHigh⟩ := clamp_range (low := 500) (high := 2000) (by decide) (field bytes 15 2)
  obtain ⟨countLow, countHigh⟩ := clamp_range (low := 1) (high := 8) (by decide) (field bytes 19 1)
  obtain ⟨windowLow, windowHigh⟩ := clamp_range (low := 600) (high := 86400) (by decide) (field bytes 20 4)
  obtain ⟨holdLow, holdHigh⟩ := clamp_range (low := 60) (high := 14400) (by decide) (field bytes 24 2)
  exact ⟨Nat.min_le_right _ _, Nat.min_le_right _ _, factorLow, factorHigh, Nat.min_le_right _ _, countLow, countHigh,
    windowLow, windowHigh, holdLow, holdHigh⟩

/-- A check-in that opens or refreshes a stay: its fields within their ranges and its session number not 0 (R88, R92). -/
structure CheckIn.Ok (c : CheckIn) : Prop where
  session : 1 ≤ c.session ∧ c.session ≤ 65535
  terms : c.terms.Ok
  pin : ∀ p ∈ c.pin, p ≤ 9999
  ceilings : c.ceilings.Ok

theorem checkInOf_ok {body : List Byte} (named : (checkInOf body).session ≠ 0) : (checkInOf body).Ok where
  session := ⟨Nat.pos_of_ne_zero named, field_two_le body 0⟩
  terms := stayTermsOf_ok _
  pin := pinOf_le _
  ceilings := quadBytes_ok ..

end Sys2Proof.Machine
end

section
/-! SUPPORT. The moves of the blocks: every operation that the commands are made of, said once with what it rests on. What the
part does at a command is a run of moves (`Moves`), but for what the two links, the ticks and the starts do themselves. -/

namespace Sys2Proof.Machine

/-- One operation of a block, whole: each leaves the laws of the state as it finds them. -/
inductive Move : State → State → Prop
  -- reports, flags and outputs
  | raise (s : State) {p : NoticePair} {v : Snapshot} (fault : Bool) (suits : v.suits p = true) (notStart : p ≠ .start) :
      Move s (s.raise p v fault)
  | latch (s : State) (f : Latched → Latched) : Move s (s.latch f)
  | place (s : State) (n : Screen) (c : Cell) : Move s (s.place n c)
  | readNotices (s : State) : Move s s.noticesRequest.1
  | setModes (s : State) (modes : Modes) : Move s (s.modesRequest modes).1
  -- lanes
  | readmit (s : State) (n : Screen) : Move s (s.admitLane n)
  | keyMiss (s : State) {n : Screen} (miss : Bool) (shows : (s.lane n).state.shows = true) : Move s (s.setKeyMiss n miss)
  | rate (s : State) (n : Screen) (quad : Rating) : Move s ((s.setLane n { s.lane n with rating := quad }).admitLane n)
  | tune (s : State) (n : Screen) {service : Nat} (named : 1 ≤ service ∧ service ≤ 4095) : Move s (s.tuneTo n service)
  | untune (s : State) (n : Screen) : Move s (s.untuneLane n)
  | expirePreview (s : State) {n : Screen} (due : s.previewDue n = true) : Move s (s.expirePreview n)
  | shutdown (s : State) (value : Bool) (named : List Screen) : Move s (s.shutdownScreens value named)
  | resetScreens (s : State) : Move s s.resetScreens
  -- the lock
  | endUnlock (s : State) (n : Screen) : Move s (s.endUnlock n)
  | unlock (s : State) {n : Screen} {service : Nat} (tuned : (s.lane n).tuned = some service) :
      Move s ((s.grantUnlock n service).admitLane n)
  | limit (s : State) (n : Screen) {quad : Rating} (ok : quad.Ok) : Move s ((s.setCeiling n quad).admitLane n)
  | changePin (s : State) {pin : Option Nat} (le : ∀ p ∈ pin, p ≤ 9999) : Move s (s.changePin pin)
  | attempt (s : State) {pin : Nat} (set : s.lock.pin = some pin) (carried : Nat) : Move s (s.pinAttempt pin carried).1
  | endLockout (s : State) : Move s s.endLockout
  -- keys and the line-up
  | loadKey (s : State) {k : KeyLoad} (le : k.validUntil ≤ maxCount) : Move s (s.loadKey k)
  | expireHalf (s : State) (slot : Fin 16) (p : Parity) : Move s (s.expireHalf slot p)
  | decode (s : State) {slot : Fin 16} {p : Parity} (key : (s.half slot p).state ≠ .empty) : Move s (s.decodeFrom slot p)
  | beginLineup (s : State) {generation : Nat} (range : 1 ≤ generation ∧ generation ≤ 255) : Move s (s.beginLineup generation)
  | stageEntry (s : State) (body : List Byte) : Move s (s.stageEntry (lineupEntryOf body))
  | commitLineup (s : State) (generation count : Nat) : Move s (s.commitLineup generation count)
  | setPrice (s : State) (code : Fin 32) {e : PriceEntry} (ok : e.Ok) : Move s (s.setPrice code e)
  -- rentals and charges
  | endRental (s : State) (index : Fin 8) : Move s (s.endRental index)
  | meter (s : State) : Move s s.meter
  | sell (s : State) (n : Screen) {e : LineupEntry} {sale : Sale} (grant : Bool) (occupied : s.room.occupancy = .occupied)
      (entry : s.entry e.service = some e) (ofEntry : s.saleOf e = some sale) (new : s.rentalOf e.service = none)
      (passed : s.judgeMoney (s.saleAmount sale) = none) : Move s (s.acceptSale n sale grant)
  | cancel (s : State) {r : Rental} (held : s.rentalAt r.index = some r) (passed : s.judgeCancel r = none) :
      Move s (s.acceptCancel r)
  | collect (s : State) : Move s s.collectHead
  | confirm (s : State) (n : Nat) : Move s (s.confirmCharge n).1
  | decline (s : State) (n : Nat) : Move s (s.declineCharge n).1
  | waive (s : State) (n : Nat) : Move s (s.waiveCharge n).1
  | revoke (s : State) (n : Nat) : Move s (s.revokeCharge n).1
  -- the room
  | openStay (s : State) {c : CheckIn} (ok : c.Ok) : Move s (s.openStay c)
  | closeStay (s : State) : Move s s.closeStay
  | refreshStay (s : State) {terms : StayTerms} (ok : terms.Ok) : Move s (s.refreshStay terms)
  | address (s : State) {address : Nat} (le : address ≤ 1022) : Move s (s.addressRequest address).1
  | startPeriod (s : State) : Move s s.startPeriod
  | testPeriod (s : State) : Move s s.periodTest
  -- the room clock and the line's silence
  | setClock (s : State) {isSet : Bool} {count : Nat} (le : count ≤ maxCount) (unset : isSet = false → count = 0) :
      Move s { s with clock := { s.clock with isSet := isSet, count := count } }
  | testSilence (s : State) : Move s s.silenceTest

/-- A run of moves. -/
abbrev Moves : State → State → Prop := Relation.ReflTransGen Move

variable {s t u : State}

theorem Move.moves (h : Move s t) : Moves s t := .single h

namespace Moves

theorem refl (s : State) : Moves s s := Relation.ReflTransGen.refl

theorem trans (h : Moves s t) (k : Moves t u) : Moves s u := Relation.ReflTransGen.trans h k

theorem then_ (h : Moves s t) (k : Move t u) : Moves s u := Relation.ReflTransGen.tail h k

theorem ite {p : Prop} [Decidable p] (h : Moves s t) (k : Moves s u) : Moves s (if p then t else u) := by
  split
  · exact h
  · exact k

/-- A fold of runs of moves. -/
theorem foldl {α : Type} {f : State → α → State} (h : ∀ s a, Moves s (f s a)) :
    ∀ (as : List α) (s : State), Moves s (as.foldl f s)
  | [], s => refl s
  | a :: as, s => (h s a).trans (foldl h as (f s a))

/-! ### Lanes -/

theorem previewTest (s : State) (n : Screen) : Moves s (s.previewTest n) := by
  unfold State.previewTest
  split
  next due => exact (Move.expirePreview s due).moves
  · exact refl s

theorem unlockTest (s : State) (n : Screen) : Moves s (s.unlockTest n) := by
  unfold State.unlockTest
  split
  · exact ite (Move.endUnlock s n).moves (refl s)
  · exact refl s

theorem admitTuned (s : State) (service : Nat) (order : List Screen) : Moves s (s.admitTuned service order) :=
  foldl (fun s n => ite (Move.readmit s n).moves (refl s)) order s

theorem admitAll (s : State) : Moves s s.admitAll :=
  foldl (fun s n => (Move.readmit s n).moves) screens s

theorem clearCellAt (s : State) (n : Screen) (c : Cell) : Moves s (s.clearCellAt n c) := by
  unfold State.clearCellAt
  split
  next shown => exact (Move.keyMiss s false shown.2).moves.then_ (.place _ n c)
  · exact (Move.place s n nullCell).moves

/-- A half that a scrambled cell is decoded from is not EMPTY (R32). -/
theorem keyFor_not_empty {service : Nat} {p : Parity} {epoch : BitVec 6} {slot : Fin 16} {h : KeyHalf}
    (key : s.keyFor service p epoch = some (slot, h)) : (s.half slot p).state ≠ .empty := by
  unfold State.keyFor at key
  split at key
  · cases key
  · dsimp only at key
    split at key
    · cases key
    next usable =>
      cases key
      exact fun empty => usable (.inl empty)

theorem scrambledCellAt (s : State) (n : Screen) (p : Parity) (c : Cell) : Moves s (s.scrambledCellAt n p c) := by
  unfold State.scrambledCellAt
  split
  next shown =>
    split
    · exact (Move.keyMiss s true shown.2).moves.then_ (.place _ n _)
    next slot h key =>
      have decoded := (Move.decode s (keyFor_not_empty key)).moves
      exact (decoded.then_ (.keyMiss (s.decodeFrom slot p) false shown.2)).then_ (.place _ n _)
  · exact (Move.place s n nullCell).moves

theorem ratingCellAt (s : State) (n : Screen) (c : Cell) : Moves s (s.ratingCellAt n c) :=
  ite ((Move.rate s n _).moves.then_ (.place _ n _)) (Move.place s n nullCell).moves

/-! ### The lock and its requests -/

theorem lockoutTest (s : State) : Moves s s.lockoutTest := ite (Move.endLockout s).moves (refl s)

theorem judgePin_fst (s : State) (required : Bool) (carried : Option Nat) : Moves s (s.judgePin required carried).1 := by
  unfold State.judgePin
  split
  · exact refl s
  next pin set =>
    split
    · exact refl s
    next c => exact (Move.attempt s set c).moves

theorem judgePin {required : Bool} {carried : Option Nat} {refusal : Option Result}
    (judged : s.judgePin required carried = (t, refusal)) : Moves s t := by
  have moves := judgePin_fst s required carried
  rwa [judged] at moves

end Moves

/-- A judged PIN writes the PIN record and notices alone (R74, R76). -/
theorem State.judgePin_frame {required : Bool} {carried : Option Nat} {refusal : Option Result}
    (judged : s.judgePin required carried = (t, refusal)) :
    t = { s with
      lock := { s.lock with failures := t.lock.failures, lockout := t.lock.lockout, lockoutEnd := t.lock.lockoutEnd }
      link := t.link } ∧ OnlyNotices s t := by
  obtain rfl : t = (s.judgePin required carried).1 := by rw [judged]
  unfold State.judgePin
  split
  · exact ⟨rfl, rfl⟩
  · split
    · exact ⟨rfl, rfl⟩
    · unfold State.pinAttempt
      split
      · exact ⟨rfl, rfl⟩
      · split
        · unfold State.setFailures
          split <;> exact ⟨rfl, rfl⟩
        · unfold State.wrongPin
          split <;> exact ⟨rfl, rfl⟩

namespace Moves

theorem unlockRequest (s : State) (screen : Nat) (carried : Option Nat) :
    Moves s (s.unlockRequest screen carried).1 := by
  unfold State.unlockRequest
  split
  · exact refl s
  next n _ =>
    split
    · exact refl s
    next service tuned =>
      split
      next judged => exact judgePin judged
      next s1 judged =>
        have still : (s1.lane n).tuned = some service := by
          rw [(State.judgePin_frame judged).1]
          exact tuned
        exact (judgePin judged).then_ (.unlock s1 still)

theorem relockRequest (s : State) (screen : Nat) : Moves s (s.relockRequest screen).1 := by
  unfold State.relockRequest
  split
  · exact refl s
  · split
    · exact refl s
    · exact (Move.endUnlock s _).moves

theorem ceilingsRequest (s : State) (screen : Nat) {quad : Rating} (ok : quad.Ok) (carried : Option Nat) :
    Moves s (s.ceilingsRequest screen quad carried).1 := by
  unfold State.ceilingsRequest
  split
  · exact refl s
  · split
    next judged => exact judgePin judged
    next judged => exact (judgePin judged).then_ (.limit _ _ ok)

theorem setPinRequest (s : State) {newPin : Option Nat} (le : ∀ p ∈ newPin, p ≤ 9999) (oldPin : Option Nat) :
    Moves s (s.setPinRequest newPin oldPin).1 := by
  unfold State.setPinRequest
  split
  next judged => exact judgePin judged
  next judged => exact (judgePin judged).then_ (.changePin _ le)

/-! ### Requests to the stream unit -/

theorem tuneRequest (s : State) (screen v : Nat) : Moves s (s.tuneRequest screen (serviceOf v)).1 := by
  unfold State.tuneRequest
  split
  · exact refl s
  next n _ =>
    split
    · exact refl s
    next named => exact (Move.tune s n ⟨Nat.pos_of_ne_zero named, serviceOf_le v⟩).moves

theorem untuneRequest (s : State) (screen : Nat) : Moves s (s.untuneRequest screen).1 := by
  unfold State.untuneRequest
  split
  · exact refl s
  · exact (Move.untune s _).moves

theorem reportRequest (s : State) (screen : Nat) : Moves s (s.reportRequest screen).1 := by
  unfold State.reportRequest
  split
  · exact refl s
  · exact refl s

/-! ### Rentals -/

theorem endRentals (s : State) (indices : List (Fin 8)) : Moves s (s.endRentals indices) :=
  foldl (fun s index => (Move.endRental s index).moves) indices s

theorem expireRentalAt (s : State) (index : Fin 8) : Moves s (s.expireRentalAt index) := by
  unfold State.expireRentalAt
  split
  · exact refl s
  · exact ite (Move.endRental s index).moves (refl s)

theorem judgeSale {e : LineupEntry} {sale : Sale} (occupied : s.room.occupancy = .occupied)
    (entry : s.entry e.service = some e) (ofEntry : s.saleOf e = some sale) (new : s.rentalOf e.service = none)
    (n : Screen) (carried : Option Nat) : Moves s (s.judgeSale n sale carried).1 := by
  unfold State.judgeSale
  split
  next judged => exact judgePin judged
  next s1 judged =>
    have moves : Moves s s1 := judgePin judged
    have frame := (State.judgePin_frame judged).1
    split
    · exact moves
    · split
      · exact moves
      next passed =>
        refine moves.then_ (Move.sell (e := e) s1 n _ ?_ ?_ ?_ ?_ passed)
        · rw [frame]; exact occupied
        · rw [frame]; exact entry
        · rw [frame]; exact ofEntry
        · rw [frame]; exact new

theorem purchaseRequest (s : State) (screen service : Nat) (carried : Option Nat) :
    Moves s (s.purchaseRequest screen service carried).1 := by
  unfold State.purchaseRequest
  split
  · exact refl s
  · split
    · exact refl s
    next notAway =>
      have occupied := not_not.mp notAway
      split
      · exact refl s
      · split
        · exact refl s
        next e entry =>
          split
          · exact refl s
          next sale ofEntry =>
            split
            · exact refl s
            · split
              · exact refl s
              next new =>
                split
                · exact refl s
                · obtain rfl := State.service_of_entry entry
                  exact judgeSale occupied entry ofEntry new _ carried

theorem index_of_rentalAt {index : Fin 8} {r : Rental} (h : s.rentalAt index = some r) : r.index = index :=
  beq_iff_eq.mp (List.find?_some (p := fun x : Rental => x.index == index) h)

theorem cancelRequest (s : State) (index : Nat) (carried : Option Nat) :
    Moves s (s.cancelRequest index carried).1 := by
  unfold State.cancelRequest
  split
  · exact refl s
  next r found =>
    obtain ⟨i, _, held⟩ := Option.bind_eq_some_iff.mp found
    split
    · exact refl s
    · split
      next judged => exact judgePin judged
      next s1 judged =>
        split
        · exact judgePin judged
        next passed =>
          refine (judgePin judged).then_ (.cancel s1 ?_ passed)
          rw [(State.judgePin_frame judged).1, index_of_rentalAt held]
          exact held

/-! ### The stay -/

theorem latch (s : State) (f : Latched → Latched) : Moves s (s.latch f) := (Move.latch s f).moves

theorem checkInRoom (s : State) (body : List Byte) : Moves s (s.checkInRoom (checkInOf body)) := by
  unfold State.checkInRoom
  split
  · exact latch s _
  next named =>
    have ok := checkInOf_ok named
    split
    · split
      · exact (Move.refreshStay s ok.terms).moves
      · exact (Move.closeStay s).moves.then_ (.openStay _ ok)
    · exact (Move.openStay s ok).moves

theorem checkOutRoom (s : State) : Moves s s.checkOutRoom := ite (Move.closeStay s).moves (refl s)

theorem updateRoom (s : State) (bytes : List Byte) : Moves s (s.updateRoom (stayTermsOf bytes)) :=
  ite (Move.refreshStay s (stayTermsOf_ok bytes)).moves (latch s _)

/-! ### The two time bases -/

theorem expireHalves (s : State) : Moves s s.expireHalves :=
  foldl (fun s k => (Move.expireHalf s k .even).moves.then_ (.expireHalf _ k .odd)) slots s

theorem periodTask (s : State) : Moves s (if s.room.period.isNone then s.startPeriod else s.periodTest) :=
  ite (Move.startPeriod s).moves (Move.testPeriod s).moves

theorem admitOnEdge (s : State) (n : Screen) : Moves s (s.admitOnEdge n) := ite (Move.readmit s n).moves (refl s)

theorem edgeTest (s : State) (service : Nat) : Moves s (s.edgeTest service) := ite (admitTuned s service _) (refl s)

theorem secondTask (s : State) (task : ClockTask) : Moves s (s.secondTask task) := by
  cases task with
  | metering => exact (Move.meter s).moves
  | keyHalves => exact expireHalves s
  | rentalEnds => exact endRentals s _
  | capPeriod => exact (Move.testPeriod s).moves
  | windows => exact foldl admitOnEdge screens s
  | clockNotice => exact refl s

theorem setTask (jump : Jump) (s : State) (task : ClockTask) : Moves s (s.setTask jump task) := by
  cases task with
  | metering => exact refl s
  | keyHalves => exact expireHalves s
  | rentalEnds => exact endRentals s _
  | capPeriod => exact periodTask s
  | windows => exact admitAll s
  | clockNotice => exact (Move.raise s _ rfl (by decide)).moves

theorem startTask (s : State) (task : ClockTask) : Moves s (s.startTask task) := by
  cases task with
  | rentalEnds => exact endRentals s _
  | capPeriod => exact periodTask s
  | metering | keyHalves | windows | clockNotice => exact refl s

theorem counts_iff (c : ClockUnit) : c.counts = true ↔ c.isSet = true ∧ c.count < maxCount := by
  simp [ClockUnit.counts]

theorem roomSecond (s : State) (order : List ClockTask) : Moves s (s.roomSecond order) := by
  unfold State.roomSecond
  split
  next counts =>
    obtain ⟨set, below⟩ := (counts_iff _).mp counts
    have counted : Moves s { s with clock := { s.clock with count := s.clock.count + 1 } } :=
      (Move.setClock s (isSet := s.clock.isSet) below (fun unset => absurd (set.symm.trans unset) (by decide))).moves
    exact ite (counted.trans (foldl secondTask _ _)) counted
  · exact refl s

theorem setTime (s : State) {t : Nat} (le : t ≤ maxCount) (order : List ClockTask) : Moves s (s.setTime t order) :=
  (Move.setClock s (isSet := true) le (fun unset => by cases unset)).moves.trans (foldl (setTask _) _ _)

theorem timerTest (s : State) (timer : RunTimer) : Moves s (s.timerTest timer) := by
  cases timer with
  | preview n => exact previewTest s n
  | unlock n => exact unlockTest s n
  | lockout => exact lockoutTest s
  | silence => exact (Move.testSilence s).moves

/-- The timers of a run tick, taken after its counts. -/
theorem tick (s : State) (order : List RunTimer) : Moves s.tickCounts (s.tick order) := foldl timerTest _ _

/-! ### Commands and requests -/

theorem resetRoom (s : State) : Moves s s.resetRoom :=
  (Move.resetScreens s).moves.then_ (.latch s.resetScreens (fun _ => .clear))

/-- What the owner of a command does is a run of moves (R168 step 4). -/
theorem plAct (s : State) (kind : PlKind) (body : List Byte) (order : List ClockTask) :
    Moves s (s.plAct kind body order).1 := by
  cases kind with
  | lineupBegin => exact (Move.beginLineup s (generationOf_range (field_one_le body 0))).moves
  | lineupEntry => exact (Move.stageEntry s body).moves
  | lineupCommit => exact (Move.commitLineup s (generationOf (field body 0 1)) (field body 1 2)).moves
  | priceSet => exact (Move.setPrice s (priceCodeOf (field body 0 1)) (priceEntryOf_ok body)).moves
  | keyLoad => exact (Move.loadKey s (k := keyLoadOf body) (field_four_le body 10)).moves
  | timeSet => exact setTime s (field_four_le body 0) order
  | roomReset => exact resetRoom s
  | checkIn => exact checkInRoom s body
  | checkOut => exact checkOutRoom s
  | roomUpdate => exact updateRoom s body
  | statusPoll => exact refl s
  | collect => exact (Move.collect s).moves
  | confirm => exact (Move.confirm s _).moves
  | decline => exact (Move.decline s _).moves
  | waive => exact (Move.waive s _).moves
  | revoke => exact (Move.revoke s _).moves
  | screenShutdown | screenRestore => exact (Move.shutdown s _ (maskScreens body)).moves
  | pinClear => exact (Move.changePin s (pin := none) (by simp)).moves

/-- What the owner of a request does is a run of moves (R186 step 3). -/
theorem mlAct (s : State) (kind : MlKind) (body : List Byte) : Moves s (s.mlAct kind body).1 := by
  cases kind with
  | identify | status | lineupRead | rentalsRead | chargesRead | restart => exact refl s
  | tune => exact tuneRequest s _ _
  | untune => exact untuneRequest s _
  | screenReport => exact reportRequest s _
  | purchase => exact purchaseRequest s _ _ _
  | cancelRental => exact cancelRequest s _ _
  | unlock => exact unlockRequest s _ _
  | relock => exact relockRequest s _
  | setCeilings => exact ceilingsRequest s _ (quadBytes_ok body 1) _
  | setPin => exact setPinRequest s (pinOf_le (field body 0 2)) _
  | noticesRead => exact (Move.readNotices s).moves
  | noticeModes => exact (Move.setModes s _).moves
  | setRoomAddress => exact (Move.address s (addressOf_le (field body 0 2))).moves

theorem judgeFrame (s : State) (f : MlFrame) : Moves s (s.judgeFrame f).1 := by
  unfold State.judgeFrame
  split
  · exact refl s
  · unfold State.judgeRequest
    split
    · exact mlAct s _ _
    · exact refl s

end Moves
end Sys2Proof.Machine
end

section
/-! SUPPORT. The writes that moves are made of: each writes one record or list of the state, with what the rules make it rest
on. A law of one block is kept by every move when it is kept by every write (`Move.writes`). -/

namespace Sys2Proof.Machine

/-- A rental changed in its place: what a purchase fixes stands, and at most one second is metered (R110, R121, R153). -/
structure Rental.Continues (r x : Rental) : Prop where
  sold : (x.index, x.service, x.session, x.charge, x.amount, x.allowance, x.grace, x.start, x.stop) =
    (r.index, r.service, r.session, r.charge, r.amount, r.allowance, r.grace, r.start, r.stop)
  viewed : x.viewed = r.viewed ∨ x.viewed = min (r.viewed + 1) maxViewed

/-- One write of the state. -/
inductive Write : State → State → Prop
  | lane (s : State) (n : Screen) (l : Lane) : Write s (s.setLane n l)
  | unlocks (s : State) (us : Vector (Option Unlock) 4) : Write s { s with lock := { s.lock with unlocks := us } }
  | used (s : State) (service : Nat) : Write s (s.addPreviewUsed service)
  | raise (s : State) {p : NoticePair} {v : Snapshot} (fault : Bool) (suits : v.suits p = true) (notStart : p ≠ .start) :
      Write s (s.raise p v fault)
  | notices (s : State) {ns : List Notice} (modes : Modes) (armed : Vector Bool 12) (sub : ns.Sublist s.link.notices) :
      Write s { s with link := { s.link with notices := ns, modes := modes, armed := armed } }
  | place (s : State) (n : Screen) (c : Cell) : Write s (s.place n c)
  | latch (s : State) (f : Latched → Latched) : Write s (s.latch f)
  -- the lock
  | ceiling (s : State) (n : Screen) {quad : Rating} (ok : quad.Ok) : Write s (s.setCeiling n quad)
  | ceilings (s : State) {quad : Rating} (ok : quad.Ok) :
      Write s { s with lock := { s.lock with ceilings := Vector.replicate 4 quad } }
  | rightPin (s : State) (free : s.lock.lockout = false) : Write s { s with lock := { s.lock with failures := 0 } }
  | wrongPin (s : State) (free : s.lock.lockout = false) (set : s.lock.pin ≠ none)
      (few : s.lock.failures + 1 < maxFailures) :
      Write s { s with lock := { s.lock with failures := s.lock.failures + 1 } }
  | lockout (s : State) (set : s.lock.pin ≠ none) (stop : Nat) :
      Write s { s with lock := { s.lock with failures := maxFailures, lockout := true, lockoutEnd := some stop } }
  | noLockout (s : State) : Write s { s with lock := s.lock.noLockout }
  | pin (s : State) {pin : Option Nat} (le : ∀ p ∈ pin, p ≤ 9999) :
      Write s { s with lock := { s.lock.noLockout with pin := pin } }
  -- keys and the line-up
  | stageHalf (s : State) {k : KeyLoad} (le : k.validUntil ≤ maxCount) :
      Write s (s.setHalf k.slot k.parity ⟨.staged, k.word, k.epoch, k.validUntil⟩)
  | expireHalf (s : State) (slot : Fin 16) (p : Parity) : Write s (s.expireHalf slot p)
  | decode (s : State) {slot : Fin 16} {p : Parity} (key : (s.half slot p).state ≠ .empty) : Write s (s.decodeFrom slot p)
  | beginLineup (s : State) {generation : Nat} (range : 1 ≤ generation ∧ generation ≤ 255) : Write s (s.beginLineup generation)
  | stageEntry (s : State) (body : List Byte) : Write s (s.stageEntry (lineupEntryOf body))
  | commit (s : State) {generation : Nat} (filling : s.lineup.staging = .filling generation) :
      Write s { s with lineup := ⟨s.lineup.standby, generation, .idle, [], false⟩ }
  | refuse (s : State) : Write s { s with lineup := { s.lineup with standby := [], fault := false, staging := .idle } }
  | price (s : State) (code : Fin 32) {e : PriceEntry} (ok : e.Ok) : Write s (s.setPrice code e)
  -- rentals and charges
  | rentals (s : State) {f : Rental → Rental} (continues : ∀ r : Rental, r.Continues (f r)) :
      Write s { s with rentals := s.rentals.map f }
  | endRental (s : State) (index : Fin 8) : Write s { s with rentals := s.rentals.filter (fun x => x.index ≠ index) }
  | book (s : State) {e : LineupEntry} {sale : Sale} (occupied : s.room.occupancy = .occupied)
      (ofEntry : s.saleOf e = some sale) (new : s.rentalOf e.service = none)
      (passed : s.judgeMoney (s.saleAmount sale) = none) : Write s (s.bookSale sale)
  | cancelQueue (s : State) {r : Rental} (held : s.rentalAt r.index = some r) (passed : s.judgeCancel r = none) :
      Write s (s.cancelQueue r)
  | fewerEntries (s : State) {entries : List QueueEntry} (sub : entries.Sublist s.charges.entries) :
      Write s (s.setEntries entries)
  | head (s : State) {e : QueueEntry} {rest : List QueueEntry} (queue : s.charges.entries = e :: rest) {state : ChargeState}
      (charge : state = .declined → e.kind = .charge) : Write s (s.setEntries ({ e with state := state } :: rest))
  -- the room
  | fall (s : State) (amount : Nat) : Write s { s with room := s.room.fall amount }
  | settle (s : State) (credits charge : Nat) : Write s { s with room := s.room.applyDifference credits charge }
  | openRoom (s : State) {c : CheckIn} (ok : c.Ok) : Write s { s with room := s.openedRoom c }
  | closeRoom (s : State) (ended : s.rentals = []) : Write s { s with room := s.closedRoom }
  | terms (s : State) {terms : StayTerms} (ok : terms.Ok) : Write s (s.storeTerms terms)
  | address (s : State) {address : Nat} (le : address ≤ 1022) : Write s { s with room := { s.room with address := address } }
  | vacate (s : State) (closing : s.room.occupancy = .closing) (queue : s.charges.entries = []) :
      Write s { s with room := { s.room with occupancy := .vacant } }
  | startPeriod (s : State) : Write s s.startPeriod
  | rollover (s : State) (start capReset : Nat) :
      Write s { s with room := { s.room with billed := 0, period := some (capWindowFrom start capReset) } }
  -- the room clock and the line's silence
  | clock (s : State) {isSet : Bool} {count : Nat} (le : count ≤ maxCount) (unset : isSet = false → count = 0) :
      Write s { s with clock := { s.clock with isSet := isSet, count := count } }
  | down (s : State) (silent : silenceLimit ≤ s.line.silence) :
      Write s { s with line := { s.line with up := false, silence := silenceLimit } }

/-- A run of writes. -/
abbrev Writes : State → State → Prop := Relation.ReflTransGen Write

variable {s t u : State}

theorem Write.writes (h : Write s t) : Writes s t := .single h

namespace Writes

theorem refl (s : State) : Writes s s := Relation.ReflTransGen.refl

theorem trans (h : Writes s t) (k : Writes t u) : Writes s u := Relation.ReflTransGen.trans h k

theorem then_ (h : Writes s t) (k : Write t u) : Writes s u := Relation.ReflTransGen.tail h k

theorem ite {p : Prop} [Decidable p] (h : Writes s t) (k : Writes s u) : Writes s (if p then t else u) := by
  split
  · exact h
  · exact k

theorem foldl {α : Type} {f : State → α → State} (h : ∀ s a, Writes s (f s a)) :
    ∀ (as : List α) (s : State), Writes s (as.foldl f s)
  | [], s => refl s
  | a :: as, s => (h s a).trans (foldl h as (f s a))

/-- What every write keeps, a run of writes keeps. -/
theorem keeps {law : State → Prop} (kept : ∀ {s t}, Write s t → law s → law t) (h : Writes s t) (ok : law s) : law t := by
  induction h with
  | refl => exact ok
  | tail _ last ih => exact kept last ih

/-! ### Notices -/

theorem raiseLane (s : State) (n : Screen) (fault : Bool) : Writes s (s.raiseLane n fault) :=
  (Write.raise s fault (by simp [State.laneView, Snapshot.suits]) (by simp)).writes

theorem raiseRentals (s : State) : Writes s s.raiseRentals := (Write.raise s _ rfl (by simp)).writes
theorem raiseBilling (s : State) (fault : Bool) : Writes s (s.raiseBilling fault) := (Write.raise s fault rfl (by simp)).writes
theorem raiseRoom (s : State) : Writes s s.raiseRoom := (Write.raise s _ rfl (by simp)).writes
theorem raisePin (s : State) (fault : Bool) : Writes s (s.raisePin fault) := (Write.raise s fault rfl (by simp)).writes
theorem raiseLine (s : State) : Writes s s.raiseLine := (Write.raise s _ rfl (by simp)).writes
theorem raiseLineup (s : State) : Writes s s.raiseLineup := (Write.raise s _ rfl (by simp)).writes

theorem latchMessageError (s : State) : Writes s s.latchMessageError := (Write.latch s _).writes
theorem latchLineupRefused (s : State) : Writes s s.latchLineupRefused := (Write.latch s _).writes

/-! ### Lanes -/

theorem mapRental (s : State) (service : Nat) {f : Rental → Rental} (h : ∀ r : Rental, r.Continues (f r)) :
    Writes s (s.mapRental service f) :=
  (Write.rentals s (f := fun r => if r.service == service then f r else r) fun r => by
    split
    · exact h r
    · exact ⟨rfl, .inl rfl⟩).writes

theorem mapTunedRental (s : State) (n : Screen) {f : Rental → Rental} (h : ∀ r : Rental, r.Continues (f r)) :
    Writes s (s.mapTunedRental n f) := by
  unfold State.mapTunedRental
  split
  · exact refl s
  · exact mapRental s _ h

theorem change (s : State) (n : Screen) (state : LaneState) (standing : Standing) (stop : Option Nat) :
    Writes s (s.change n state standing stop) := by
  have written := (Write.lane s n { s.lane n with state := state, standing := standing, previewEnd := stop }).writes
  exact ite written (written.trans (raiseLane _ n _))

theorem settle (s : State) (n : Screen) (v : Verdict) : Writes s (s.settle n v) := by
  have left : Writes s (s.mapTunedRental n (·.without n)) := mapTunedRental s n fun _ => ⟨rfl, .inl rfl⟩
  cases v with
  | off | blank | openFree => exact left.trans (change ..)
  | seatKeep | waitKeep => exact change ..
  | seatGrant => exact (mapTunedRental s n (f := (·.seat n)) fun _ => ⟨rfl, .inl rfl⟩).trans (change ..)
  | waitJoin => exact (mapTunedRental s n (f := (·.join n)) fun _ => ⟨rfl, .inl rfl⟩).trans (change ..)
  | previewKeep => exact refl s
  | previewStart seconds =>
    have begun := left.trans (change _ n .preview .none (some (s.runEnd seconds)))
    simp only [State.settle]
    split
    · exact begun
    · exact begun.then_ (.used ..)

theorem handOver (service : Nat) : ∀ (waiting : List Screen) (s : State), Writes s (handOver service waiting s)
  | [], s => refl s
  | w :: rest, s => by
    have given : Writes s ((s.mapRental service (·.seat w)).setLane w { s.lane w with standing := .holding }) :=
      (mapRental s service (f := (·.seat w)) fun _ => ⟨rfl, .inl rfl⟩).then_ (.lane ..)
    simp only [Machine.handOver]
    split
    · exact given.trans (settle ..)
    · exact (given.trans (settle ..)).trans (handOver service rest _)

theorem handOn (s : State) (before : Lane) : Writes s (s.handOn before) := by
  unfold State.handOn
  split
  · exact handOver ..
  · exact refl s

theorem admitAs (s : State) (n : Screen) (v : Verdict) : Writes s (s.admitAs n v) :=
  ite ((settle s n v).trans (handOn ..)) (settle s n v)

theorem admitLane (s : State) (n : Screen) : Writes s (s.admitLane n) := admitAs s n _

theorem admitEach (s : State) (order : List Screen) : Writes s (s.admitEach order) := foldl admitLane order s

theorem admitTuned (s : State) (service : Nat) (order : List Screen) : Writes s (s.admitTuned service order) :=
  foldl (fun s n => ite (admitLane s n) (refl s)) order s

theorem release (s : State) (n : Screen) : Writes s (s.release n) :=
  ((mapTunedRental s n (f := (·.without n)) fun _ => ⟨rfl, .inl rfl⟩).then_ (.lane ..)).trans (handOn ..)

theorem setUnlock (s : State) (n : Screen) (u : Option Unlock) : Writes s (s.setUnlock n u) := (Write.unlocks s _).writes

theorem dropUnlocks (s : State) : Writes s s.dropUnlocks := (Write.unlocks s _).writes

theorem setKeyMiss (s : State) (n : Screen) (miss : Bool) : Writes s (s.setKeyMiss n miss) :=
  ite (refl s) ((Write.lane s n _).writes.trans (raiseLane ..))

theorem tuneTo (s : State) (n : Screen) (service : Nat) : Writes s (s.tuneTo n service) := by
  have retuned := ((release s n).trans (setUnlock _ n none)).then_ (.lane _ n _ : Write _ (State.retune _ n service))
  exact (retuned.trans (setKeyMiss _ n false)).trans (admitLane _ n)

theorem untuneLane (s : State) (n : Screen) : Writes s (s.untuneLane n) := by
  have untuned := ((release s n).trans (setUnlock _ n none)).then_
    (.lane _ n { Lane.atStart with shutdown := (((s.release n).setUnlock n none).lane n).shutdown })
  exact ite untuned (untuned.trans (raiseLane ..))

theorem expirePreview (s : State) (n : Screen) : Writes s (s.expirePreview n) := by
  have dropped := (Write.lane s n { s.lane n with previewEnd := none }).writes
  unfold State.expirePreview
  dsimp only
  split
  · exact dropped.trans (admitLane ..)
  · exact (dropped.then_ (.used ..)).trans (admitLane ..)

theorem setShutdown (s : State) (value : Bool) (named : List Screen) : Writes s (s.setShutdown value named) :=
  foldl (fun s n => (Write.lane s n _).writes) named s

theorem resetLane (s : State) (n : Screen) : Writes s (s.resetLane n) := ite (admitAs ..) (admitLane ..)

theorem resetScreens (s : State) : Writes s s.resetScreens := by
  have previews : Writes s s.dropPreviews := foldl (fun s n => (Write.lane s n _).writes) screens s
  exact ((previews.trans (dropUnlocks _)).trans (setShutdown _ false screens)).trans (foldl resetLane screens _)

theorem resetRatings (s : State) : Writes s s.resetRatings := by
  refine foldl (fun s n => ?_) screens s
  split
  · exact refl s
  · exact (Write.lane ..).writes

/-! ### The lock -/

theorem changePin (s : State) {pin : Option Nat} (le : ∀ p ∈ pin, p ≤ 9999) : Writes s (s.changePin pin) :=
  ((Write.pin s le).writes.trans (admitEach ..)).trans (raisePin ..)

theorem pinAttempt (s : State) {pin : Nat} (set : s.lock.pin = some pin) (carried : Nat) :
    Writes s (s.pinAttempt pin carried).1 := by
  have isSet : s.lock.pin ≠ none := by simp [set]
  unfold State.pinAttempt
  split
  · exact refl s
  next unlocked =>
    have free := Bool.eq_false_iff.mpr unlocked
    split
    · exact ite (refl s) ((Write.rightPin s free).writes.trans (raisePin ..))
    · unfold State.wrongPin
      split
      next few => exact (Write.wrongPin s free isSet few).writes.trans (raisePin ..)
      · exact (Write.lockout s isSet _).writes.trans (raisePin ..)

/-! ### Keys and the line-up -/

theorem loadKey (s : State) {k : KeyLoad} (le : k.validUntil ≤ maxCount) : Writes s (s.loadKey k) :=
  ite (Write.latch ..).writes (Write.stageHalf s le).writes

theorem commitLineup (s : State) (generation count : Nat) : Writes s (s.commitLineup generation count) := by
  have refused : Writes s s.refuseLineup := (Write.refuse s).writes.trans (latchLineupRefused _)
  unfold State.commitLineup
  split
  · exact (Write.latch ..).writes
  · exact refused
  next filling =>
    exact ite ((((Write.commit s filling).writes.trans (raiseLineup _)).trans (resetRatings _)).trans (admitEach ..)) refused

/-! ### Rentals and charges -/

theorem clearStandings (s : State) (lanes : List Screen) : Writes s (s.clearStandings lanes) :=
  foldl (fun s n => (Write.lane s n _).writes) lanes s

theorem endRental (s : State) (index : Fin 8) : Writes s (s.endRental index) := by
  unfold State.endRental
  split
  · exact refl s
  · exact (((Write.endRental s index).writes.trans (clearStandings ..)).trans (admitTuned ..)).trans (raiseRentals _)

theorem endRentals (s : State) (indices : List (Fin 8)) : Writes s (s.endRentals indices) := foldl endRental indices s

theorem meter (s : State) : Writes s s.meter :=
  (Write.rentals s fun r => by
    split
    · exact ⟨rfl, .inl rfl⟩
    · exact ⟨rfl, .inr rfl⟩).writes

theorem markWaived (s : State) (n : Nat) : Writes s (s.markWaived n) :=
  (Write.rentals s fun r => by
    split
    · exact ⟨rfl, .inl rfl⟩
    · exact ⟨rfl, .inl rfl⟩).writes

theorem acceptSale {n : Screen} {e : LineupEntry} {sale : Sale} {grant : Bool} (occupied : s.room.occupancy = .occupied)
    (ofEntry : s.saleOf e = some sale) (new : s.rentalOf e.service = none)
    (passed : s.judgeMoney (s.saleAmount sale) = none) : Writes s (s.acceptSale n sale grant) := by
  have booked := (Write.book s occupied ofEntry new passed).writes
  have granted : Writes s (if grant ∧ (s.lane n).tuned = some sale.entry.service then
      (s.bookSale sale).grantUnlock n sale.entry.service else s.bookSale sale) :=
    ite (booked.trans (setUnlock ..)) booked
  have sold := (granted.trans (admitTuned _ sale.entry.service (purchaseOrder n))).trans (raiseRentals _)
  exact ite (sold.trans (raiseRoom _)) sold

theorem acceptCancel {r : Rental} (held : s.rentalAt r.index = some r) (passed : s.judgeCancel r = none) :
    Writes s (s.acceptCancel r) := by
  have queued := (Write.cancelQueue s held passed).writes
  have lowered : Writes s { s.cancelQueue r with room := s.room.fall (s.cancelAmount r) } := by
    have room : (s.cancelQueue r).room = s.room := by
      unfold State.cancelQueue
      split <;> rfl
    rw [← room]
    exact queued.then_ (.fall ..)
  have ended := lowered.trans (endRental _ r.index)
  exact ite ended (ended.trans (raiseRoom _))

theorem collectHead (s : State) : Writes s s.collectHead := by
  unfold State.collectHead
  split
  · exact refl s
  next queue => exact ite (Write.head s queue (by simp)).writes (refl s)

theorem closeIfEmpty (s : State) : Writes s s.closeIfEmpty := by
  unfold State.closeIfEmpty
  split
  next emptied => exact (Write.vacate s emptied.1 emptied.2).writes.trans (raiseRoom _)
  · exact refl s

theorem confirmCharge (s : State) (n : Nat) : Writes s (s.confirmCharge n).1 := by
  unfold State.confirmCharge
  split
  · exact refl s
  · split
    · exact refl s
    next e rest queue =>
      split
      · exact (Write.fewerEntries s (queue ▸ List.sublist_cons_self e rest)).writes.trans (closeIfEmpty _)
      · exact refl s

theorem declineCharge (s : State) (n : Nat) : Writes s (s.declineCharge n).1 := by
  unfold State.declineCharge
  split
  · exact refl s
  · split
    · exact refl s
    next e rest queue =>
      split
      · exact latchMessageError s
      next charge =>
        split
        next offered =>
          have isCharge : e.kind = .charge := not_not.mp fun other => charge ⟨offered.1, other⟩
          exact (Write.head s queue (fun _ => isCharge)).writes.trans (raiseBilling ..)
        · exact refl s

theorem settleCharge (s : State) (head : QueueEntry) : Writes s (s.settleCharge head) := by
  have fewer := (Write.fewerEntries s
    ((List.filter_sublist (p := fun e => e.refersTo != some head.number)).trans (List.drop_sublist 1 s.charges.entries))).writes
  have totals : Writes s _ := fewer.then_ (.settle _
    (((s.charges.entries.drop 1).filter (fun e => e.refersTo == some head.number)).map (·.amount)).sum head.amount)
  exact ite totals (totals.trans (raiseRoom _))

theorem endHold (s : State) : Writes s s.endHold := (raiseBilling s false).trans (closeIfEmpty _)

theorem waiveCharge (s : State) (n : Nat) : Writes s (s.waiveCharge n).1 := by
  unfold State.waiveCharge
  split
  · exact refl s
  · exact ((settleCharge ..).trans (markWaived ..)).trans (endHold _)

theorem endRentalOfCharge (s : State) (n : Nat) : Writes s (s.endRentalOfCharge n) := by
  unfold State.endRentalOfCharge
  split
  · exact endRental ..
  · exact refl s

theorem revokeCharge (s : State) (n : Nat) : Writes s (s.revokeCharge n).1 := by
  unfold State.revokeCharge
  split
  · exact refl s
  · exact ((settleCharge ..).trans (endRentalOfCharge ..)).trans (endHold _)

/-! ### The room -/

theorem openStay (s : State) {c : CheckIn} (ok : c.Ok) : Writes s (s.openStay c) := by
  have opened : Writes s { s with room := s.openedRoom c, lock := { s.lock with ceilings := Vector.replicate 4 c.ceilings } } :=
    (Write.openRoom s ok).writes.then_ (.ceilings _ ok.ceilings)
  have stored := ((opened.trans (dropUnlocks _)).then_ (.pin _ ok.pin)).trans (raisePin _ false)
  exact (stored.trans (admitEach ..)).trans (raiseRoom _)

theorem closeStay (s : State) : Writes s s.closeStay := by
  have ended : Writes s s.endAllRentals.dropUnlocks := (endRentals s _).trans (dropUnlocks _)
  exact ((ended.then_ (.closeRoom _ s.rentals_endAllRentals)).trans (admitEach ..)).trans (raiseRoom _)

theorem refreshStay (s : State) {terms : StayTerms} (ok : terms.Ok) : Writes s (s.refreshStay terms) :=
  ((Write.terms s ok).writes.trans (admitEach ..)).trans (raiseRoom _)

theorem addressRequest (s : State) {address : Nat} (le : address ≤ 1022) : Writes s (s.addressRequest address).1 := by
  have stored := (Write.address s le).writes
  unfold State.addressRequest
  split
  · exact refl s
  · exact ite stored (stored.trans (raiseRoom _))

theorem periodTest (s : State) : Writes s s.periodTest :=
  ite ((Write.rollover s _ _).writes.trans (raiseRoom _)) (refl s)

theorem silenceTest (s : State) : Writes s s.silenceTest := by
  unfold State.silenceTest
  split
  next silent => exact (Write.down s silent.2).writes.trans (raiseLine _)
  · exact refl s

end Writes

/-- Every move is a run of writes. -/
theorem Move.writes (h : Move s t) : Writes s t := by
  cases h with
  | raise fault suits notStart => exact (Write.raise s fault suits notStart).writes
  | latch f => exact (Write.latch s f).writes
  | place n c => exact (Write.place s n c).writes
  | readNotices => exact (Write.notices s _ _ (List.nil_sublist _)).writes
  | setModes modes => exact (Write.notices s _ _ List.filter_sublist).writes
  | readmit n => exact .admitLane s n
  | keyMiss miss => exact .setKeyMiss ..
  | rate n quad => exact (Write.lane s n _).writes.trans (.admitLane ..)
  | tune n => exact .tuneTo ..
  | untune n => exact .untuneLane s n
  | expirePreview => exact .expirePreview ..
  | shutdown value named => exact (Writes.setShutdown s value named).trans (.admitEach ..)
  | resetScreens => exact .resetScreens s
  | endUnlock n => exact (Writes.setUnlock s n none).trans (.admitLane ..)
  | unlock => exact (Writes.setUnlock ..).trans (.admitLane ..)
  | limit n ok => exact (Write.ceiling s n ok).writes.trans (.admitLane ..)
  | changePin le => exact .changePin s le
  | attempt set carried => exact .pinAttempt s set carried
  | endLockout => exact (Write.noLockout s).writes.trans (.raisePin ..)
  | loadKey le => exact .loadKey s le
  | expireHalf slot p => exact (Write.expireHalf s slot p).writes
  | decode key => exact (Write.decode s key).writes
  | beginLineup range => exact (Write.beginLineup s range).writes
  | stageEntry body => exact (Write.stageEntry s body).writes
  | commitLineup generation count => exact .commitLineup s generation count
  | setPrice code ok => exact (Write.price s code ok).writes
  | endRental index => exact .endRental s index
  | meter => exact .meter s
  | sell n grant occupied entry ofEntry new passed => exact .acceptSale occupied ofEntry new passed
  | cancel held passed => exact .acceptCancel held passed
  | collect => exact .collectHead s
  | confirm n => exact .confirmCharge s n
  | decline n => exact .declineCharge s n
  | waive n => exact .waiveCharge s n
  | revoke n => exact .revokeCharge s n
  | openStay ok => exact .openStay s ok
  | closeStay => exact .closeStay s
  | refreshStay ok => exact .refreshStay s ok
  | address le => exact .addressRequest s le
  | startPeriod => exact (Write.startPeriod s).writes
  | testPeriod => exact .periodTest s
  | setClock le unset => exact (Write.clock s le unset).writes
  | testSilence => exact .silenceTest s

theorem Moves.writes (h : Moves s t) : Writes s t := by
  induction h with
  | refl => exact .refl s
  | tail _ last ih => exact ih.trans last.writes

/-- What every write keeps, a run of moves keeps. -/
theorem Moves.keeps {law : State → Prop} (kept : ∀ {s t}, Write s t → law s → law t) (h : Moves s t) (ok : law s) : law t :=
  h.writes.keeps kept ok

end Sys2Proof.Machine
end

section
/-! SUPPORT. The turns of the part: what a command does is a run of moves of the blocks and of the few things that the two
links, the ticks and the starts do themselves. A law that every turn keeps is kept by every step. -/

namespace Sys2Proof.Machine

/-- What the part does at a command that does not come over the media link: runs of moves, and whole events of the property
line, the ticks and the starts. -/
inductive ApartTurn : State → State → Prop
  | moves {s t : State} (h : Moves s t) : ApartTurn s t
  | line (s : State) (rx : Rx) (latched : Latched) (reply : ReplyPhase) :
      ApartTurn s { s with line := { s.line with rx := rx, latched := latched, reply := reply } }
  | heard (s : State) :
      ApartTurn s { s with line := { s.line with rx := .hunting, reply := .none, silence := 0, up := true } }
  | tick (s : State) (order : List RunTimer) : ApartTurn s (s.tick order)
  | start (s : State) (retentionGood : Bool) (order : List ClockTask) : ApartTurn s (s.start retentionGood order)
  | powerLoss (s : State) : ApartTurn s { s with powered := false }

/-- A run of such turns. -/
abbrev ApartTurns : State → State → Prop := Relation.ReflTransGen ApartTurn

/-- What the part does at any command: such turns, changes of the media link's own fields, and restarts. -/
inductive Turn : State → State → Prop
  | apart {s t : State} (h : ApartTurn s t) : Turn s t
  | link (s : State) (rx : Rx) (buffer : List MlFrame) (answers : List MlReply) (tx : MlTx) :
      Turn s { s with link := { s.link with rx := rx, buffer := buffer, answers := answers, tx := tx } }
  | restart (s : State) : Turn s s.takeRestart

/-- A run of turns. -/
abbrev Turns : State → State → Prop := Relation.ReflTransGen Turn

variable {s t u : State}

theorem ApartTurn.turns (h : ApartTurn s t) : ApartTurns s t := .single h

theorem Moves.apartTurns (h : Moves s t) : ApartTurns s t := (ApartTurn.moves h).turns

theorem ApartTurns.turns (h : ApartTurns s t) : Turns s t := Relation.ReflTransGen.mono (fun _ _ => Turn.apart) _ _ h

theorem Turn.turns (h : Turn s t) : Turns s t := .single h

theorem Moves.turns (h : Moves s t) : Turns s t := h.apartTurns.turns

namespace Turns

theorem refl (s : State) : Turns s s := Relation.ReflTransGen.refl

theorem trans (h : Turns s t) (k : Turns t u) : Turns s u := Relation.ReflTransGen.trans h k

theorem ite {p : Prop} [Decidable p] (h : Turns s t) (k : Turns s u) : Turns s (if p then t else u) := by
  split
  · exact h
  · exact k

theorem foldl {α : Type} {f : State → α → State} (h : ∀ s a, Turns s (f s a)) :
    ∀ (as : List α) (s : State), Turns s (as.foldl f s)
  | [], s => refl s
  | a :: as, s => (h s a).trans (foldl h as (f s a))

/-- What every turn keeps, a run of turns keeps. -/
theorem keeps {law : State → Prop} (kept : ∀ {s t}, Turn s t → law s → law t) (h : Turns s t) (ok : law s) : law t := by
  induction h with
  | refl => exact ok
  | tail _ last ih => exact kept last ih

/-! ### The media link -/

/-- A change of the link's receiver, buffer, answers or transmitter. -/
theorem link (rx : Rx) (buffer : List MlFrame) (answers : List MlReply) (tx : MlTx) :
    Turns s { s with link := { s.link with rx := rx, buffer := buffer, answers := answers, tx := tx } } :=
  (Turn.link s rx buffer answers tx).turns

theorem handle (s : State) (f : MlFrame) (behind : List MlFrame) : Turns s (s.handle f behind) := by
  have emptied : Turns s (s.setBuffer []) := link ..
  have judged := emptied.trans (Moves.judgeFrame (s.setBuffer []) f).turns
  exact judged.trans (link ..)

theorem chooseNext (s : State) : Turns s s.chooseNext := by
  unfold State.chooseNext
  split
  · exact link ..
  · split
    · exact handle ..
    · exact refl s

theorem chooseIfIdle (s : State) : Turns s s.chooseIfIdle := ite (chooseNext s) (refl s)

theorem transmitNext (s : State) : Turns s s.transmitNext :=
  (ite (Turn.restart s).turns (link ..) : Turns s s.finishTx).trans (chooseNext _)

theorem addAnswer (s : State) (reply : MlReply) : Turns s (s.addAnswer reply) := ite (link ..) (refl s)

theorem arrive (s : State) (f : MlFrame) : Turns s (s.arrive f) :=
  (ite (link ..) (addAnswer ..) : Turns s (s.offer f)).trans (chooseIfIdle _)

theorem answerBadFrame (s : State) : Turns s s.answerBadFrame := (addAnswer s badFrame).trans (chooseIfIdle _)

theorem takeMlFrame (s : State) (f : MlFrame) : Turns s (s.takeMlFrame f) :=
  ite (transmitNext s) ((transmitNext s).trans (arrive ..))

theorem mlChar (s : State) (c : Byte) : Turns s (s.mlChar c) := by
  have received : Turns s (s.setMlRx (mlRxTake s.link.rx c).1) := link ..
  unfold State.mlChar
  cases (mlRxTake s.link.rx c).2 with
  | quiet => exact received
  | tooLong | badCrc => exact received.trans (answerBadFrame _)
  | good f => exact received.trans (arrive _ f)

theorem mlChars (s : State) (chars : List Byte) : Turns s (s.mlChars chars) := foldl mlChar chars s

theorem mlAbort (s : State) : Turns s s.mlAbort := by
  unfold State.mlAbort
  split
  · exact refl s
  · exact (link .. : Turns s (s.setMlRx .hunting)).trans (answerBadFrame _)

/-- What only a part with its supply does (R108). -/
theorem ifPowered {f : State → State} (h : Turns s (f s)) : Turns s (s.ifPowered f) := ite h (refl s)

end Turns

namespace ApartTurns

theorem refl (s : State) : ApartTurns s s := Relation.ReflTransGen.refl

theorem trans (h : ApartTurns s t) (k : ApartTurns t u) : ApartTurns s u := Relation.ReflTransGen.trans h k

theorem ite {p : Prop} [Decidable p] (h : ApartTurns s t) (k : ApartTurns s u) : ApartTurns s (if p then t else u) := by
  split
  · exact h
  · exact k

theorem foldl {α : Type} {f : State → α → State} (h : ∀ s a, ApartTurns s (f s a)) :
    ∀ (as : List α) (s : State), ApartTurns s (as.foldl f s)
  | [], s => refl s
  | a :: as, s => (h s a).trans (foldl h as (f s a))

/-- What every such turn keeps, a run of them keeps. -/
theorem keeps {law : State → Prop} (kept : ∀ {s t}, ApartTurn s t → law s → law t) (h : ApartTurns s t) (ok : law s) :
    law t := by
  induction h with
  | refl => exact ok
  | tail _ last ih => exact kept last ih

/-! ### The property line -/

/-- A change of the line's receiver, latched flags or reply. -/
theorem line (rx : Rx) (latched : Latched) (reply : ReplyPhase) :
    ApartTurns s { s with line := { s.line with rx := rx, latched := latched, reply := reply } } :=
  (ApartTurn.line s rx latched reply).turns

theorem hearFrame (s : State) : ApartTurns s s.hearFrame := by
  have heard := (ApartTurn.heard s).turns
  exact ite heard (heard.trans (Move.raise _ _ rfl (by simp)).moves.apartTurns)

theorem takeCommand (s : State) (address : Nat) (kind : PlKind) (body : List Byte) (order : List ClockTask) :
    ApartTurns s (s.takeCommand address kind body order) := by
  have heard := hearFrame s
  have acted := heard.trans (Moves.plAct s.hearFrame kind body order).apartTurns
  unfold State.takeCommand
  split
  · exact heard
  · exact ite (acted.trans (line ..)) (heard.trans (line ..))
  · exact ite (acted.trans (line ..)) (heard.trans (line ..))

theorem takeFrame (s : State) (f : PlFrame) (order : List ClockTask) : ApartTurns s (s.takeFrame f order) := by
  unfold State.takeFrame
  split
  · exact hearFrame s
  · exact takeCommand ..

theorem plFrame (s : State) (f : PlFrame) (order : List ClockTask) : ApartTurns s (s.plFrame f order) :=
  ite (takeFrame s f order) (refl s)

theorem plCommand (s : State) (kind : PlKind) (address : BitVec 10) (body : List Byte) (order : List ClockTask) :
    ApartTurns s (s.plCommand kind address body order) :=
  ite (takeCommand ..) (refl s)

theorem abandonReply (s : State) : ApartTurns s s.abandonReply := by
  unfold State.abandonReply
  split
  · exact line ..
  · exact refl s

theorem plChar (s : State) (c : Byte) : ApartTurns s (s.plChar c) := by
  have received : ApartTurns s (s.abandonReply.setPlRx (plRxTake s.line.rx c).1) := (abandonReply s).trans (line ..)
  unfold State.plChar
  split
  · dsimp only
    split
    · exact received.trans (takeFrame ..)
    · exact received
  · exact refl s

theorem plChars (s : State) (chars : List Byte) : ApartTurns s (s.plChars chars) := foldl plChar chars s

theorem plCharsThenAbort (s : State) (chars : List Byte) : ApartTurns s (s.plChars chars).plAbort :=
  (plChars s chars).trans (ite ((abandonReply _).trans (line ..)) (refl _))

/-! ### The commands -/

/-- What only a part with its supply does (R108). -/
theorem ifPowered {f : State → State} (h : ApartTurns s (f s)) : ApartTurns s (s.ifPowered f) := ite h (refl s)

/-- A SET clock counts the held seconds on, up to its highest count (R90). -/
theorem countHeld (s : State) (seconds : Nat) : ApartTurns s (s.countHeld seconds) := by
  unfold State.countHeld
  split
  next set =>
    exact (Move.setClock s (isSet := s.clock.isSet) (Nat.min_le_right _ _)
      (fun unset => absurd (set.symm.trans unset) (by decide))).moves.apartTurns
  · exact refl s

end ApartTurns

/-- The commands that come over the media link. -/
def onMediaLink : Instr → Bool
  | .mlBreak _ | .mlFramingError _ | .mlLengthAbort _ | .mlBadCrcFrame _ | .mlGoodFrame _ _ _ | .transmitComplete
  | .mlUnknownRequest _ _ _ | .restartTakesEffect
  | .identify _ _ | .status _ _ | .tune _ _ | .untune _ _ | .screenReport _ _ | .lineupRead _ _ | .purchase _ _
  | .cancelRental _ _ | .rentalsRead _ _ | .chargesRead _ _ | .unlock _ _ | .relock _ _ | .setCeilings _ _ | .setPin _ _
  | .noticesRead _ _ | .noticeModes _ _ | .setRoomAddress _ _ | .restart _ _ => true
  | _ => false

/-- A command that does not come over the media link answers by a run of turns apart from it. -/
theorem exec_apartTurns {i : Instr} (apart : onMediaLink i = false) (s : State) :
    ∃ t, exec i s = .next t ∧ ApartTurns s t := by
  cases i with
  | powerOn retentionGood order => exact ⟨_, rfl, (ApartTurn.start s retentionGood order).turns⟩
  | resetPin hold order => exact ⟨_, rfl, .ifPowered ((ApartTurns.countHeld s _).trans (ApartTurn.start ..).turns)⟩
  | runTick order => exact ⟨_, rfl, .ifPowered (ApartTurn.tick s order).turns⟩
  | previewExpiry lane => exact ⟨_, rfl, .ifPowered (Moves.previewTest s lane).apartTurns⟩
  | unlockExpiry screen => exact ⟨_, rfl, .ifPowered (Moves.unlockTest s screen).apartTurns⟩
  | lockoutEnd => exact ⟨_, rfl, .ifPowered (Moves.lockoutTest s).apartTurns⟩
  | lineDown => exact ⟨_, rfl, .ifPowered (Move.testSilence s).moves.apartTurns⟩
  | roomClockSecond order => exact ⟨_, rfl, (Moves.roomSecond s order).apartTurns⟩
  | keyExpiry slot parity => exact ⟨_, rfl, .ifPowered (Move.expireHalf s slot parity).moves.apartTurns⟩
  | rentalExpiry index => exact ⟨_, rfl, .ifPowered (Moves.expireRentalAt s index).apartTurns⟩
  | eventWindowEdge service => exact ⟨_, rfl, .ifPowered (Moves.edgeTest s _).apartTurns⟩
  | capPeriodRollover => exact ⟨_, rfl, .ifPowered (Move.testPeriod s).moves.apartTurns⟩
  | clearCell => exact ⟨_, rfl, .ifPowered (Moves.clearCellAt s _ _).apartTurns⟩
  | scrambledCell => exact ⟨_, rfl, .ifPowered (Moves.scrambledCellAt s _ _ _).apartTurns⟩
  | ratingCell => exact ⟨_, rfl, .ifPowered (Moves.ratingCellAt s _ _).apartTurns⟩
  | plBreak chars | plFramingError chars => exact ⟨_, rfl, .plCharsThenAbort s chars⟩
  | plBodyCountAbort chars | plBadCrcFrame chars => exact ⟨_, rfl, .plChars s chars⟩
  | frameNotForRoom address kind body | plUnknownKind address kind body => exact ⟨_, rfl, .plFrame s _ []⟩
  | timeSet address body order => exact ⟨_, rfl, .plCommand s .timeSet address body order⟩
  | lineupBegin address body | lineupEntry address body | lineupCommit address body | priceSet address body
  | keyLoad address body | roomReset address body | checkIn address body | checkOut address body
  | roomUpdate address body | statusPoll address body | collect address body | confirm address body
  | decline address body | waive address body | revoke address body | screenShutdown address body
  | screenRestore address body | pinClear address body => exact ⟨_, rfl, .plCommand s _ address body []⟩
  | plReplySend | plReplyComplete =>
    refine ⟨_, rfl, .ifPowered ?_⟩
    dsimp only
    split
    · exact .line ..
    · exact .refl s
  | replyAbandoned char => exact ⟨_, rfl, .plChar s char⟩
  | powerLoss => exact ⟨_, rfl, (ApartTurn.powerLoss s).turns⟩
  | _ => cases apart

/-- A command that comes over the media link answers by a run of turns. -/
theorem exec_linkTurns {i : Instr} (linked : onMediaLink i = true) (s : State) : ∃ t, exec i s = .next t ∧ Turns s t := by
  cases i with
  | mlBreak chars | mlFramingError chars => exact ⟨_, rfl, .ifPowered ((Turns.mlChars s chars).trans (.mlAbort _))⟩
  | mlLengthAbort chars | mlBadCrcFrame chars => exact ⟨_, rfl, .ifPowered (.mlChars s chars)⟩
  | mlGoodFrame kind tag body =>
    exact ⟨_, rfl, .ifPowered ((Turns.link .. : Turns s (s.setMlRx .hunting)).trans (.arrive _ _))⟩
  | transmitComplete => exact ⟨_, rfl, .ifPowered (.transmitNext s)⟩
  | mlUnknownRequest kind tag body => exact ⟨_, rfl, .ifPowered (.takeMlFrame s _)⟩
  | identify tag body | status tag body | tune tag body | untune tag body | screenReport tag body
  | lineupRead tag body | purchase tag body | cancelRental tag body | rentalsRead tag body | chargesRead tag body
  | unlock tag body | relock tag body | setCeilings tag body | setPin tag body | noticesRead tag body
  | noticeModes tag body | setRoomAddress tag body | restart tag body =>
    exact ⟨_, rfl, .ifPowered (.takeMlFrame s _)⟩
  | restartTakesEffect => exact ⟨_, rfl, .ifPowered (.ite (.transmitNext s) (.refl s))⟩
  | _ => cases linked

/-- Every command answers, by a run of turns. -/
theorem exec_turns (i : Instr) (s : State) : ∃ t, exec i s = .next t ∧ Turns s t := by
  cases linked : onMediaLink i with
  | true => exact exec_linkTurns linked s
  | false =>
    obtain ⟨t, answers, turns⟩ := exec_apartTurns linked s
    exact ⟨t, answers, turns.turns⟩

/-- A law that every command keeps, and that does not read the queue of commands, is kept by every step. -/
theorem KeptByStep.of_exec {law : State → Prop} (queue : ∀ s rest, law s → law { s with pending := rest })
    (kept : ∀ (i : Instr) (s : State), law s → ∃ t, exec i s = .next t ∧ law t) : KeptByStep law := by
  intro s t ok stepped
  unfold step at stepped
  split at stepped
  · rw [← Host.Outcome.next.inj stepped]
    exact ok
  next c rest _ =>
    obtain ⟨u, answers, after⟩ := kept c { s with pending := rest } (queue s rest ok)
    rwa [← Host.Outcome.next.inj (answers.symm.trans stepped)]

/-- A law that every turn keeps, and that does not read the queue of commands, is kept by every step. -/
theorem KeptByStep.of_turns {law : State → Prop} (queue : ∀ s rest, law s → law { s with pending := rest })
    (kept : ∀ {s t}, Turn s t → law s → law t) : KeptByStep law :=
  .of_exec queue fun i s ok =>
    have ⟨t, answers, turns⟩ := exec_turns i s
    ⟨t, answers, turns.keeps kept ok⟩

end Sys2Proof.Machine
end

section
/-! SUPPORT. The starts and the host RESTART in moves: what a warm start begins with, what a cold start leaves, and that a
RESTART untunes the lanes (R64, R65, R108, R109, R195). -/

namespace Sys2Proof.Machine

variable {s t : State}

/-- What a warm start begins with: the retention domain, and the volatile blocks as at a start (R108). -/
def State.warmBegin (s : State) : State := { s.volatileStart with lastStart := .warm }

/-- The tests of a warm start are moves from there. -/
theorem Moves.warmBlocks (s : State) (order : List ClockTask) : Moves s.warmBegin (s.warmBlocks order) := by
  unfold State.warmBlocks
  exact ite (foldl startTask _ _) (refl _)

/-- Clearing the standings of no lane changes nothing. -/
@[simp] theorem State.clearStandings_nil (s : State) : s.clearStandings [] = s := rfl

/-- Nothing is admitted for a service that no lane is tuned to (R52). -/
theorem State.admitTuned_of_untuned {service : Nat} (order : List Screen) (untuned : ∀ n, (s.lane n).tuned ≠ some service) :
    s.admitTuned service order = s := by
  induction order with
  | nil => rfl
  | cons n rest ih =>
    rw [State.admitTuned, List.foldl_cons, State.admitIfTuned, if_neg (untuned n)]
    exact ih

/-- The state of a part whose lanes are all untuned and whose rentals no lane holds or waits for. -/
structure State.Unwatched (s : State) : Prop where
  lanes : ∀ n, (s.lane n).tuned = none
  rentals : ∀ r ∈ s.rentals, r.seats = [] ∧ r.waiting = []

/-- From s to t only the Rental List and the media link differ. -/
abbrev OnlyListed (s t : State) : Prop := t = { s with rentals := t.rentals, link := t.link }

theorem OnlyListed.trans {u : State} (h : OnlyListed s t) (k : OnlyListed t u) : OnlyListed s u := by
  unfold OnlyListed at *
  rw [k, h]

/-- Without a viewer a rental's end takes it off the list and reports it, and no more (R122). -/
theorem State.Unwatched.endRental_eq (h : s.Unwatched) {index : Fin 8} {r : Rental} (held : s.rentalAt index = some r) :
    s.endRental index =
      ({ s with rentals := s.rentals.filter (fun x => x.index ≠ index) } : State).raiseRentals := by
  obtain ⟨noSeats, noWaiting⟩ := h.rentals r (List.mem_of_find?_eq_some held)
  simp only [State.endRental, held, noSeats, noWaiting, List.append_nil, State.clearStandings_nil]
  congr 1
  exact State.admitTuned_of_untuned _ fun n => by
    rw [show (({ s with rentals := s.rentals.filter (fun x => x.index ≠ index) } : State).lane n) = s.lane n from rfl,
      h.lanes n]
    simp

/-- So it writes the list and the notices alone, and there is no viewer after it. -/
theorem State.Unwatched.endRental (h : s.Unwatched) (index : Fin 8) :
    (s.endRental index).Unwatched ∧ OnlyListed s (s.endRental index) := by
  cases held : s.rentalAt index with
  | none =>
    rw [s.endRental_none index held]
    exact ⟨h, rfl⟩
  | some r =>
    rw [h.endRental_eq held]
    exact ⟨⟨h.lanes, fun x kept => h.rentals x (List.mem_of_mem_filter kept)⟩, rfl⟩

theorem State.Unwatched.endRentals (h : s.Unwatched) (indices : List (Fin 8)) :
    (s.endRentals indices).Unwatched ∧ OnlyListed s (s.endRentals indices) := by
  induction indices generalizing s with
  | nil => exact ⟨h, rfl⟩
  | cons index rest ih =>
    obtain ⟨first, frame⟩ := h.endRental index
    obtain ⟨last, rests⟩ := ih first
    exact ⟨last, frame.trans rests⟩

theorem State.unwatched_volatileStart (s : State) : s.volatileStart.Unwatched where
  lanes n := congrArg Lane.tuned (get_replicate n Lane.atStart)
  rentals r held := by
    obtain ⟨x, -, rfl⟩ := List.mem_map.mp held
    exact ⟨rfl, rfl⟩

/-- A cold start leaves the state of reset, but for the notices it filed and the commands that wait (R109; log 2). -/
theorem State.coldBlocks_eq (s : State) :
    s.coldBlocks = { State.reset with link := s.coldBlocks.link, pending := s.pending } := by
  obtain ⟨-, frame⟩ := s.unwatched_volatileStart.endRentals (s.volatileStart.rentals.map (·.index))
  have ended : OnlyListed s.volatileStart s.volatileStart.endAllRentals := frame
  unfold State.coldBlocks
  dsimp only
  split <;> rw [ended] <;> rfl

/-- A RESTART, as moves between two changes of the link (R195). -/
theorem State.takeRestart_eq (s : State) : ∃ (u : State) (l : MediaLink),
    Moves { s with link := { s.link with buffer := [], tx := .idle } } u ∧ s.takeRestart = { u with link := l } := by
  have untuned : Moves { s with link := { s.link with buffer := [], tx := .idle } }
      (State.untuneAll { s with link := { s.link with buffer := [], tx := .idle } }) :=
    .foldl (fun s n => (Move.untune s n).moves) screens _
  unfold State.takeRestart
  dsimp only
  generalize State.untuneAll _ = u at untuned ⊢
  exact ⟨u, _, untuned, rfl⟩

end Sys2Proof.Machine
end

section
/-! SUPPORT. Laws of the blocks: a law that reads neither of the links, nor the supply nor the queue of commands, is kept by
every step when it holds at reset, every move keeps it, and the counts of a tick and a warm start keep it. -/

namespace Sys2Proof.Machine

/-- A law of the blocks that hold the part's records. -/
structure BlockLaw (law : State → Prop) : Prop where
  blind : ∀ (s : State) (powered : Bool) (line : PropertyLine) (link : MediaLink) (pending : List Instr), law s →
    law { s with powered := powered, line := line, link := link, pending := pending }
  cold : law State.reset
  warm : ∀ s, law s → law s.warmBegin
  counts : ∀ (s : State) (run : Nat), run ≤ maxCount → law s → law { s with clock := { s.clock with run := run } }
  move : ∀ {s t}, Move s t → law s → law t

namespace BlockLaw

variable {law : State → Prop} {s t : State}

theorem moves (kept : BlockLaw law) (h : Moves s t) (ok : law s) : law t := by
  induction h with
  | refl => exact ok
  | tail _ last ih => exact kept.move last ih

theorem apartTurn (kept : BlockLaw law) (h : ApartTurn s t) (ok : law s) : law t := by
  cases h with
  | moves h => exact kept.moves h ok
  | line rx latched reply => exact kept.blind s s.powered _ s.link s.pending ok
  | heard => exact kept.blind s s.powered _ s.link s.pending ok
  | powerLoss => exact kept.blind s false s.line s.link s.pending ok
  | tick order =>
    refine kept.moves (.tick s order) ?_
    have counted := kept.counts s _ (Nat.min_le_right (s.clock.run + 1) maxCount) ok
    exact kept.blind _ s.powered _ s.link s.pending counted
  | start retentionGood order =>
    unfold State.start
    split
    · have warm := kept.moves (.warmBlocks s order) (kept.warm s ok)
      exact kept.blind _ _ _ _ _ warm
    · rw [s.coldBlocks_eq]
      exact kept.blind State.reset true State.reset.line _ s.pending kept.cold

theorem turn (kept : BlockLaw law) (h : Turn s t) (ok : law s) : law t := by
  cases h with
  | apart h => exact kept.apartTurn h ok
  | link rx buffer answers tx => exact kept.blind s s.powered s.line _ s.pending ok
  | restart =>
    obtain ⟨u, l, moves, eq⟩ := s.takeRestart_eq
    rw [eq]
    have untuned := kept.moves moves (kept.blind s s.powered s.line _ s.pending ok)
    exact kept.blind u _ _ l _ untuned

theorem keptByStep (kept : BlockLaw law) : KeptByStep law :=
  .of_turns (fun s rest ok => kept.blind s s.powered s.line s.link rest ok) kept.turn

end BlockLaw
end Sys2Proof.Machine
end

section
/-! SUPPORT. What no write changes: the supply, the last start, the queue of commands, and of the two links all but notices,
latched flags and the line's state. -/

namespace Sys2Proof.Machine

variable {s t : State}

/-- A booking writes the list, the room's totals, history and preview-used list, and for an amount the queue (R115). -/
theorem State.bookSale_eq (s : State) (sale : Sale) :
    s.bookSale sale = { s with
      rentals := s.rentals ++ [s.newRental sale (if 0 < s.saleAmount sale then some s.nextNumber else none)]
      charges := if 0 < s.saleAmount sale then
        (s.enqueue .charge sale.entry.service (s.saleAmount sale) s.room.terms.tax).charges else s.charges
      room := { s.room.rise (s.saleAmount sale) with
        history := pushBounded historyCapacity s.room.history s.clock.count
        previewUsed := addUsed s.room.previewUsed sale.entry.service } } := by
  unfold State.bookSale
  dsimp only
  split <;> rfl

/-- A cancel's queue side writes the queue alone (R126). -/
theorem State.cancelQueue_eq (s : State) (r : Rental) :
    s.cancelQueue r = { s with charges := (s.cancelQueue r).charges } := by
  unfold State.cancelQueue
  split <;> rfl

/-- A pending period's start writes the period alone (R100). -/
theorem State.startPeriod_eq (s : State) :
    s.startPeriod = { s with room := { s.room with period := s.startPeriod.room.period } } := by
  unfold State.startPeriod
  split <;> rfl

/-- What the blocks leave to the links, the supply and the starts. -/
structure LinksStand (s t : State) : Prop where
  powered : t.powered = s.powered
  lastStart : t.lastStart = s.lastStart
  pending : t.pending = s.pending
  mlRx : t.link.rx = s.link.rx
  buffer : t.link.buffer = s.link.buffer
  answers : t.link.answers = s.link.answers
  tx : t.link.tx = s.link.tx
  plRx : t.line.rx = s.line.rx
  reply : t.line.reply = s.line.reply

theorem LinksStand.refl (s : State) : LinksStand s s := ⟨rfl, rfl, rfl, rfl, rfl, rfl, rfl, rfl, rfl⟩

theorem LinksStand.trans {u : State} (h : LinksStand s t) (k : LinksStand t u) : LinksStand s u :=
  ⟨k.powered.trans h.powered, k.lastStart.trans h.lastStart, k.pending.trans h.pending, k.mlRx.trans h.mlRx,
    k.buffer.trans h.buffer, k.answers.trans h.answers, k.tx.trans h.tx, k.plRx.trans h.plRx, k.reply.trans h.reply⟩

theorem Write.linksStand (h : Write s t) : LinksStand s t := by
  cases h with
  | stageEntry => rw [s.stageEntry_onlyStages]; exact ⟨rfl, rfl, rfl, rfl, rfl, rfl, rfl, rfl, rfl⟩
  | book => rw [s.bookSale_eq]; exact ⟨rfl, rfl, rfl, rfl, rfl, rfl, rfl, rfl, rfl⟩
  | cancelQueue => rw [s.cancelQueue_eq]; exact ⟨rfl, rfl, rfl, rfl, rfl, rfl, rfl, rfl, rfl⟩
  | startPeriod => rw [s.startPeriod_eq]; exact ⟨rfl, rfl, rfl, rfl, rfl, rfl, rfl, rfl, rfl⟩
  | _ => exact ⟨rfl, rfl, rfl, rfl, rfl, rfl, rfl, rfl, rfl⟩

theorem Writes.linksStand (h : Writes s t) : LinksStand s t :=
  h.keeps (law := LinksStand s) (fun write stands => stands.trans write.linksStand) (.refl s)

theorem Moves.linksStand (h : Moves s t) : LinksStand s t := h.writes.linksStand

/-- No turn reads or writes the queue of waiting commands (log 1). -/
theorem ApartTurn.pending_eq (h : ApartTurn s t) : t.pending = s.pending := by
  cases h with
  | moves h => exact h.linksStand.pending
  | line | heard | powerLoss => rfl
  | tick order => exact (Moves.tick s order).linksStand.pending
  | start retentionGood order =>
    unfold State.start
    split
    · exact (Moves.warmBlocks s order).linksStand.pending
    · show s.coldBlocks.pending = s.pending
      rw [s.coldBlocks_eq]

theorem Turn.pending_eq (h : Turn s t) : t.pending = s.pending := by
  cases h with
  | apart h => exact h.pending_eq
  | link => rfl
  | restart =>
    obtain ⟨u, l, moves, eq⟩ := s.takeRestart_eq
    rw [eq]
    exact moves.linksStand.pending

theorem Turns.pending_eq (h : Turns s t) : t.pending = s.pending :=
  h.keeps (law := fun u => u.pending = s.pending) (fun turn same => turn.pending_eq.trans same) rfl

end Sys2Proof.Machine
end

section
/-! PROOFS. A step takes the front command, and every command answers (00_scope, Events). -/

namespace Sys2Proof.Machine

/-- Settles O1. -/
theorem aStepTakesTheFrontCommandOrIdles : Obligations.AStepTakesTheFrontCommandOrIdles :=
  ⟨fun _ _ _ => rfl, fun s idle => by rw [step, idle]⟩

/-- Settles O2: a command is a run of turns, and no turn touches the queue. -/
theorem everyCommandAnswersANextState : Obligations.EveryCommandAnswersANextState := by
  intro s c
  obtain ⟨t, answers, turns⟩ := exec_turns c s
  exact ⟨t, answers, turns.pending_eq⟩

end Sys2Proof.Machine
end

section
/-! SUPPORT. The counts of the two time bases, the line state and the PIN record, write by write (R73 to R77, R90, R91, R179). -/

namespace Sys2Proof.Machine

variable {s t : State}

/-! ### The clock -/

theorem Write.clockOk (h : Write s t) (ok : s.clock.Ok) : t.clock.Ok := by
  cases h with
  | stageEntry => rw [s.stageEntry_onlyStages]; exact ok
  | book => rw [s.bookSale_eq]; exact ok
  | cancelQueue => rw [s.cancelQueue_eq]; exact ok
  | startPeriod => rw [s.startPeriod_eq]; exact ok
  | clock le unset =>
    obtain ⟨-, run, -⟩ := ok
    exact ⟨le, run, unset⟩
  | _ => exact ok

theorem blockLaw_clock : BlockLaw (fun s => s.clock.Ok) where
  blind _ _ _ _ _ ok := ok
  cold := by decide
  warm _ := fun ⟨count, _, unset⟩ => ⟨count, Nat.zero_le _, unset⟩
  counts _ _ le := fun ⟨count, _, unset⟩ => ⟨count, le, unset⟩
  move h ok := h.writes.keeps Write.clockOk ok

/-! ### The lock -/

theorem Write.lockOk (h : Write s t) (ok : s.lock.Ok) : t.lock.Ok := by
  have ⟨few, atThree, ends, unset, pins, limits⟩ := ok
  cases h with
  | stageEntry => rw [s.stageEntry_onlyStages]; exact ok
  | book => rw [s.bookSale_eq]; exact ok
  | cancelQueue => rw [s.cancelQueue_eq]; exact ok
  | startPeriod => rw [s.startPeriod_eq]; exact ok
  | ceiling n quad =>
    refine ⟨few, atThree, ends, unset, pins, fun m => ?_⟩
    by_cases same : m = n
    · subst same
      rw [State.setCeiling, get_set_self]
      exact quad
    · rw [State.setCeiling, get_set_ne _ same]
      exact limits m
  | ceilings quad => exact ⟨few, atThree, ends, unset, pins, fun m => by rw [get_replicate]; exact quad⟩
  | rightPin free =>
    have never : ¬ s.lock.lockout = true := by simp [free]
    exact ⟨Nat.zero_le _, iff_of_false never (by simp), ends, fun _ => rfl, pins, limits⟩
  | wrongPin free set few =>
    have never : ¬ s.lock.lockout = true := by simp [free]
    exact ⟨few.le, iff_of_false never few.ne, ends, fun none => absurd none set, pins, limits⟩
  | lockout set stop => exact ⟨le_rfl, iff_of_true rfl rfl, iff_of_true rfl rfl, fun none => absurd none set, pins, limits⟩
  | noLockout =>
    exact ⟨Nat.zero_le _, iff_of_false (by simp [LockUnit.noLockout]) (by simp [LockUnit.noLockout]),
      iff_of_false (by simp [LockUnit.noLockout]) (by simp [LockUnit.noLockout]), fun _ => rfl, pins, limits⟩
  | pin le =>
    exact ⟨Nat.zero_le _, iff_of_false (by simp [LockUnit.noLockout]) (by simp [LockUnit.noLockout]),
      iff_of_false (by simp [LockUnit.noLockout]) (by simp [LockUnit.noLockout]), fun _ => rfl, le, limits⟩
  | _ => exact ok

/-- A lockout kept through a warm start has an end (R75). -/
theorem LockUnit.Ok.atStart {l : LockUnit} (ok : l.Ok) : l.atStart.Ok := by
  obtain ⟨few, atThree, ends, unset, pins, ceilings⟩ := ok
  refine ⟨few, atThree, ?_, unset, pins, ceilings⟩
  cases locked : l.lockout <;> simp [LockUnit.atStart, locked]

theorem blockLaw_lock : BlockLaw (fun s => s.lock.Ok) where
  blind _ _ _ _ _ ok := ok
  cold := by decide
  warm _ ok := ok.atStart
  counts _ _ _ ok := ok
  move h ok := h.writes.keeps Write.lockOk ok

/-! ### The line state -/

theorem Write.lineOk (h : Write s t) (ok : s.line.Ok) : t.line.Ok := by
  cases h with
  | stageEntry => rw [s.stageEntry_onlyStages]; exact ok
  | book => rw [s.bookSale_eq]; exact ok
  | cancelQueue => rw [s.cancelQueue_eq]; exact ok
  | startPeriod => rw [s.startPeriod_eq]; exact ok
  | down => exact ⟨le_rfl, by simp⟩
  | _ => exact ok

/-- The line after its silence has been tested (R179). -/
def PropertyLine.tested (l : PropertyLine) : PropertyLine :=
  if l.up ∧ silenceLimit ≤ l.silence then { l with up := false, silence := silenceLimit } else l

theorem PropertyLine.tested_tested (l : PropertyLine) : l.tested.tested = l.tested := by
  unfold PropertyLine.tested
  grind

theorem State.silenceTest_line (s : State) : s.silenceTest.line = s.line.tested := by
  unfold State.silenceTest PropertyLine.tested
  split <;> rfl

theorem Viewing.line_eq (h : Viewing s t) : t.line = s.line := by
  rw [h.only.1]

/-- The other timers leave the line. -/
theorem State.timerTest_line {timer : RunTimer} (other : timer ≠ .silence) (s : State) :
    (s.timerTest timer).line = s.line := by
  cases timer with
  | silence => exact absurd rfl other
  | preview n =>
    show (s.previewTest n).line = s.line
    unfold State.previewTest State.expirePreview
    dsimp only
    split
    · split <;> exact (Viewing.admitLane ..).line_eq
    · rfl
  | unlock n =>
    show (s.unlockTest n).line = s.line
    unfold State.unlockTest
    split
    · split
      · exact (Viewing.admitLane ..).line_eq
      · rfl
    · rfl
  | lockout =>
    show s.lockoutTest.line = s.line
    unfold State.lockoutTest
    split <;> rfl

theorem State.timers_line (timers : List RunTimer) (s : State) :
    (timers.foldl State.timerTest s).line = if .silence ∈ timers then s.line.tested else s.line := by
  induction timers generalizing s with
  | nil => rfl
  | cons timer rest ih =>
    rw [List.foldl_cons, ih]
    by_cases silence : timer = .silence
    · subst silence
      simp [State.timerTest, State.silenceTest_line, PropertyLine.tested_tested]
    · rw [State.timerTest_line silence]
      simp [Ne.symm silence]

/-- Every task is taken, whatever order is named (log 4). -/
theorem mem_takeOrder {α : Type} [DecidableEq α] {all named : List α} {a : α} (h : a ∈ all) : a ∈ takeOrder all named := by
  simp [takeOrder, h]

/-- A run tick leaves the line with its silence counted and tested (R179). -/
theorem State.tick_line (s : State) (order : List RunTimer) :
    (s.tick order).line =
      { s.line with silence := if s.line.up then s.line.silence + 1 else s.line.silence }.tested := by
  rw [State.tick, State.timers_line, if_pos (mem_takeOrder (by decide))]
  rfl

/-- The line after a tick, in numbers (R179). -/
theorem PropertyLine.Ok.counted {l : PropertyLine} (ok : l.Ok) :
    { l with silence := if l.up then l.silence + 1 else l.silence }.tested =
      { l with up := l.up && decide (l.silence + 1 < 300), silence := min (l.silence + 1) 300 } := by
  obtain ⟨few, up⟩ := ok
  unfold PropertyLine.tested
  unfold silenceLimit at *
  cases state : l.up with
  | false =>
    have still : l.silence = 300 := by
      have := up.not.mp (by simp [state])
      omega
    simp [still]
  | true =>
    have below := up.mp state
    by_cases last : 300 ≤ l.silence + 1
    · have : l.silence + 1 = 300 := by omega
      simp [this]
    · have : min (l.silence + 1) 300 = l.silence + 1 := by omega
      simp [this, last]
      omega

theorem PropertyLine.Ok.tick {l : PropertyLine} (ok : l.Ok) :
    { l with silence := if l.up then l.silence + 1 else l.silence }.tested.Ok := by
  rw [ok.counted]
  obtain ⟨few, up⟩ := ok
  refine ⟨Nat.min_le_right _ _, ?_⟩
  unfold silenceLimit at *
  simp only [Bool.and_eq_true, decide_eq_true_eq, up]
  omega

theorem ApartTurn.lineOk (h : ApartTurn s t) (ok : s.line.Ok) : t.line.Ok := by
  cases h with
  | moves h => exact h.keeps Write.lineOk ok
  | line | powerLoss => exact ok
  | heard => exact ⟨Nat.zero_le _, by simp⟩
  | tick order =>
    rw [s.tick_line]
    exact ok.tick
  | start retentionGood order =>
    unfold State.start
    split
    · exact (Moves.warmBlocks s order).keeps Write.lineOk (by decide : PropertyLine.atStart.Ok)
    · show s.coldBlocks.line.Ok
      rw [s.coldBlocks_eq]
      exact (by decide : PropertyLine.atStart.Ok)

theorem Turn.lineOk (h : Turn s t) (ok : s.line.Ok) : t.line.Ok := by
  cases h with
  | apart h => exact h.lineOk ok
  | link => exact ok
  | restart =>
    obtain ⟨u, l, moves, eq⟩ := s.takeRestart_eq
    rw [eq]
    exact moves.keeps Write.lineOk ok

end Sys2Proof.Machine
end

section
/-! PROOFS. The counts, the line state and the PIN record (R73 to R77, R90, R91, R179). -/

namespace Sys2Proof.Machine

/-- Settles O4: write by write, and for the line turn by turn. -/
theorem everyStepKeepsTheCountsAndTheLock : Obligations.EveryStepKeepsTheCountsAndTheLock :=
  ⟨blockLaw_clock.keptByStep, .of_turns (fun _ _ ok => ok) Turn.lineOk, blockLaw_lock.keptByStep⟩

end Sys2Proof.Machine
end

section
/-! SUPPORT. Charge arithmetic and charge numbers: the bounds of an amount (R132 to R135), and that the next number is held by
nothing (R145). -/

namespace Sys2Proof.Machine

variable {s : State}

/-! ### The amount -/

theorem netPrice_le {base factor : Nat} (low : base ≤ 65535) (rate : factor ≤ 2000) : netPrice base factor ≤ 131070 := by
  have product : base * factor ≤ 65535 * 2000 := Nat.mul_le_mul low rate
  unfold netPrice
  omega

theorem taxOn_le {net tax : Nat} (low : net ≤ 131070) (rate : tax ≤ 3000) : taxOn net tax ≤ 39321 := by
  have product : net * tax ≤ 131070 * 3000 := Nat.mul_le_mul low rate
  unfold taxOn
  omega

theorem grossPrice_le {base factor tax : Nat} (low : base ≤ 65535) (rate : factor ≤ 2000) (taxed : tax ≤ 3000) :
    grossPrice base factor tax ≤ 170391 :=
  Nat.add_le_add (netPrice_le low rate) (taxOn_le (netPrice_le low rate) taxed)

theorem chargeAmount_le_gross (base factor tax cap billed : Nat) :
    chargeAmount base factor tax cap billed ≤ grossPrice base factor tax := by
  unfold chargeAmount
  split
  · exact le_rfl
  · exact Nat.min_le_left _ _

/-- With a cap the amount is at most what remains of it (R135). -/
theorem chargeAmount_le_rest {cap billed : Nat} (set : cap ≠ 0) (base factor tax : Nat) :
    chargeAmount base factor tax cap billed ≤ cap - billed := by
  rw [chargeAmount, if_neg set]
  exact Nat.min_le_right _ _

theorem cappedMark_iff (base factor tax cap billed : Nat) :
    cappedMark base factor tax cap billed = true ↔ cap ≠ 0 ∧ cap - billed < grossPrice base factor tax := by
  unfold cappedMark chargeAmount
  split
  next none => simp [none]
  next set => simp [set]

/-- The net price is the product over 1000, rounded half up (R132). -/
theorem netPrice_rounds (base factor : Nat) :
    2 * 1000 * netPrice base factor ≤ 2 * base * factor + 1000 ∧
      2 * base * factor + 1000 < 2 * 1000 * netPrice base factor + 2000 := by
  rw [Nat.mul_assoc 2 base factor]
  unfold netPrice
  omega

/-! ### The next charge number -/

theorem isNumber_succNumber {n : Nat} (h : isNumber n) : isNumber (succNumber n) := by
  unfold succNumber
  split <;> omega

/-- Numbers follow one another in a ring of 65,535 (R145). -/
theorem succNumber_iterate {n : Nat} (h : isNumber n) (i : Nat) : succNumber^[i] n = (n - 1 + i) % 65535 + 1 := by
  induction i with
  | zero =>
    obtain ⟨low, high⟩ := h
    rw [Function.iterate_zero, id]
    omega
  | succ i ih =>
    rw [Function.iterate_succ_apply', ih]
    unfold succNumber
    split <;> omega

/-- Numbers that are held: by an entry, by a CREDIT's refers-to or by a rental (R145). -/
def State.heldNumbers (s : State) : List Nat :=
  s.charges.entries.map (·.number) ++ s.charges.entries.filterMap QueueEntry.refersTo ++ s.rentals.filterMap (·.charge)

theorem State.numberHeld_iff (s : State) (n : Nat) : s.numberHeld n = true ↔ n ∈ s.heldNumbers := by
  simp only [State.numberHeld, State.heldNumbers, Bool.or_eq_true, List.any_eq_true, beq_iff_eq, List.mem_append,
    List.mem_map, List.mem_filterMap]
  refine or_congr_left ⟨?_, ?_⟩
  · rintro ⟨e, held, number | credit⟩
    · exact .inl ⟨e, held, number⟩
    · exact .inr ⟨e, held, credit⟩
  · rintro (⟨e, held, number⟩ | ⟨e, held, credit⟩)
    · exact ⟨e, held, .inl number⟩
    · exact ⟨e, held, .inr credit⟩

/-- A search that ends on a held number has passed over held numbers alone. -/
theorem State.held_of_freeNumber {passes n : Nat} (held : s.numberHeld (s.freeNumber passes n) = true) :
    ∀ i ≤ passes, s.numberHeld (succNumber^[i] n) = true := by
  induction passes generalizing n with
  | zero =>
    intro i none
    obtain rfl := Nat.le_zero.mp none
    exact held
  | succ passes ih =>
    rw [State.freeNumber] at held
    split at held
    next first =>
      intro i within
      cases i with
      | zero => exact first
      | succ i => exact ih held i (Nat.le_of_succ_le_succ within)
    next free => exact absurd held free

theorem State.isNumber_freeNumber {passes n : Nat} (h : isNumber n) : isNumber (s.freeNumber passes n) := by
  induction passes generalizing n with
  | zero => exact h
  | succ passes ih =>
    rw [State.freeNumber]
    split
    · exact ih (isNumber_succNumber h)
    · exact h

/-- Among 33 candidates one is not held by a queue of 12 and a list of 8 (R145; log 33). -/
theorem State.numberHeld_nextNumber (entries : s.charges.entries.length ≤ 12) (rentals : s.rentals.length ≤ 8)
    (next : isNumber s.charges.next) : s.numberHeld s.nextNumber = false := by
  by_contra notFree
  have held := State.held_of_freeNumber (Bool.not_eq_false _ ▸ notFree)
  let candidates := (List.range 33).map (fun i => succNumber^[i] s.charges.next)
  have distinct : candidates.Nodup := by
    refine List.Nodup.map_on (fun i first j second same => ?_) List.nodup_range
    rw [succNumber_iterate next, succNumber_iterate next] at same
    have := List.mem_range.mp first
    have := List.mem_range.mp second
    omega
  have allHeld : candidates ⊆ s.heldNumbers := by
    intro n candidate
    obtain ⟨i, within, rfl⟩ := List.mem_map.mp candidate
    exact (s.numberHeld_iff _).mp (held i (List.mem_range.mp within).le)
  have many : 33 ≤ s.heldNumbers.length := by
    simpa [candidates] using (distinct.subperm allHeld).length_le
  have few : s.heldNumbers.length ≤ 12 + 12 + 8 := by
    have credits := List.length_filterMap_le QueueEntry.refersTo s.charges.entries
    have charges := List.length_filterMap_le (·.charge) s.rentals
    simp only [State.heldNumbers, List.length_append, List.length_map]
    omega
  omega

/-- The number the next entry takes is a charge number that nothing holds (R145). -/
theorem State.nextNumber_free (entries : s.charges.entries.length ≤ 12) (rentals : s.rentals.length ≤ 8)
    (next : isNumber s.charges.next) :
    isNumber s.nextNumber ∧ (∀ e ∈ s.charges.entries, e.number ≠ s.nextNumber ∧ e.refersTo ≠ some s.nextNumber) ∧
      ∀ r ∈ s.rentals, r.charge ≠ some s.nextNumber := by
  have free := State.numberHeld_nextNumber entries rentals next
  simp only [State.numberHeld, Bool.or_eq_false_iff, List.any_eq_false, Bool.or_eq_true, beq_iff_eq, not_or] at free
  exact ⟨State.isNumber_freeNumber next, free⟩

end Sys2Proof.Machine
end

section
/-! PROOFS. Amounts and numbers in bounds (R132 to R135, R145). -/

namespace Sys2Proof.Machine

/-- Settles O58. -/
theorem amountsAndNumbersStayInBounds : Obligations.AmountsAndNumbersStayInBounds := by
  refine ⟨fun base factor tax cap billed low rate taxed => ⟨?_, fun set within => ?_, cappedMark_iff .., netPrice_rounds ..⟩,
    fun s entries rentals low high => ?_⟩
  · exact (chargeAmount_le_gross ..).trans (grossPrice_le low rate taxed)
  · have rest := chargeAmount_le_rest set base factor tax (billed := billed)
    omega
  · obtain ⟨⟨above, below⟩, free⟩ := State.nextNumber_free entries rentals ⟨low, high⟩
    exact ⟨above, below, free⟩

end Sys2Proof.Machine
end

section
/-! SUPPORT. The line-up and the keys, write by write (R1 to R11, R20 to R25, R33). -/

namespace Sys2Proof.Machine

variable {s t : State}

/-- What holds of every place of a vector, and of the value put in one, holds of every place after. -/
theorem forall_get_set {α : Type} {k : Nat} {p : α → Prop} {v : Vector α k} (all : ∀ j : Fin k, p (v.get j)) (i : Fin k)
    {x : α} (new : p x) (j : Fin k) : p ((v.set i.val x i.isLt).get j) := by
  by_cases same : j = i
  · rw [same, get_set_self]
    exact new
  · rw [get_set_ne _ same]
    exact all j

/-! ### The line-up -/

theorem TableOk.nil : TableOk [] := ⟨by decide, .nil, by simp⟩

theorem Staging.fits_of_filling {t : LineupTable} (ok : t.Ok) {generation : Nat} (h : t.staging = .filling generation) :
    1 ≤ generation ∧ generation ≤ 255 := by
  have ⟨_, _, _, fits, _⟩ := ok
  simpa [h, Staging.fits] using fits

/-- An ENTRY in FILLING keeps both tables service tables (R6 to R8). -/
theorem LineupTable.Ok.take {t : LineupTable} (ok : t.Ok) {generation : Nat} (filling : t.staging = .filling generation)
    {e : LineupEntry} (entry : e.Ok) : (t.take generation e).Ok := by
  have range := Staging.fits_of_filling ok filling
  obtain ⟨active, standby, generations, fits, idle⟩ := ok
  by_cases place : t.standby.length < lineupCapacity ∨ ∃ x ∈ t.standby, x.service = e.service
  · rw [LineupTable.take_of_place place]
    exact ⟨active, standby.insertEntry entry place, generations, fits, fun isIdle => by simp [filling] at isIdle⟩
  · simp only [not_or, not_lt, not_exists, not_and] at place
    rw [LineupTable.take_of_full place.1 place.2]
    exact ⟨active, standby, generations, by simpa [Staging.fits] using range, fun isIdle => by cases isIdle⟩

/-- An entry received that R8 does not discard is within its ranges. -/
theorem lineupEntryOf_ok_of_kept {body : List Byte} (kept : (lineupEntryOf body).discarded ≠ true) :
    (lineupEntryOf body).Ok := by
  rw [Ne, LineupEntry.discarded_iff] at kept
  push Not at kept
  exact lineupEntryOf_ok kept.1 kept.2

theorem State.stageEntry_lineupOk (ok : s.lineup.Ok) (body : List Byte) : (s.stageEntry (lineupEntryOf body)).lineup.Ok := by
  cases staging : s.lineup.staging with
  | idle => rw [State.stageEntry_of_idle staging]; exact ok
  | overfull => rw [State.stageEntry_of_overfull staging]; exact ok
  | filling generation =>
    rw [State.stageEntry_of_filling staging]
    dsimp only
    split
    · obtain ⟨active, standby, generations, fits, -⟩ := ok
      exact ⟨active, standby, generations, fits, fun isIdle => by simp [staging] at isIdle⟩
    next kept => exact ok.take staging (lineupEntryOf_ok_of_kept kept)

theorem Write.lineupOk (h : Write s t) (ok : s.lineup.Ok) : t.lineup.Ok := by
  have ⟨active, standby, generations, fits, idle⟩ := ok
  cases h with
  | stageEntry body => exact State.stageEntry_lineupOk ok body
  | beginLineup range =>
    exact ⟨active, .nil, generations, by simpa [State.beginLineup, Staging.fits] using range, fun isIdle => by cases isIdle⟩
  | commit filling => exact ⟨standby, .nil, (Staging.fits_of_filling ok filling).2, rfl, fun _ => ⟨rfl, rfl⟩⟩
  | refuse => exact ⟨active, .nil, generations, rfl, fun _ => ⟨rfl, rfl⟩⟩
  | book => rw [s.bookSale_eq]; exact ok
  | cancelQueue => rw [s.cancelQueue_eq]; exact ok
  | startPeriod => rw [s.startPeriod_eq]; exact ok
  | _ => exact ok

theorem LineupTable.atStart_ok : LineupTable.atStart.Ok := ⟨.nil, .nil, Nat.zero_le _, rfl, fun _ => ⟨rfl, rfl⟩⟩

theorem blockLaw_lineup : BlockLaw (fun s => s.lineup.Ok) where
  blind _ _ _ _ _ ok := ok
  cold := LineupTable.atStart_ok
  warm _ _ := LineupTable.atStart_ok
  counts _ _ _ ok := ok
  move h ok := h.writes.keeps Write.lineupOk ok

/-! ### The keys -/

theorem KeyHalf.noKey_ok : KeyHalf.noKey.Ok := ⟨fun _ => rfl, Nat.zero_le _⟩

theorem KeyHalf.Ok.tested {h : KeyHalf} (ok : h.Ok) (c : ClockUnit) : (h.tested c).Ok := by
  unfold KeyHalf.tested
  split
  · exact KeyHalf.noKey_ok
  · exact ok

/-- A test takes no half LIVE (R25). -/
theorem KeyHalf.live_of_tested {h : KeyHalf} {c : ClockUnit} (live : (h.tested c).state = .live) : h.state = .live := by
  unfold KeyHalf.tested at live
  split at live
  · cases live
  · exact live

theorem KeySlot.Ok.half {k : KeySlot} (ok : k.Ok) (p : Parity) : (k.half p).Ok := by
  obtain ⟨even, odd, -⟩ := ok
  cases p
  · exact even
  · exact odd

theorem KeySlot.Ok.not_both_live {k : KeySlot} (ok : k.Ok) (p : Parity) (live : (k.half p).state = .live) :
    (k.half (partner p)).state ≠ .live := by
  obtain ⟨-, -, alone⟩ := ok
  cases p
  · exact fun odd => alone ⟨live, odd⟩
  · exact fun even => alone ⟨even, live⟩

/-- A slot with a half in order put in it, LIVE only beside one that is not (R20, R33). -/
theorem KeySlot.Ok.setHalf {k : KeySlot} (ok : k.Ok) {p : Parity} {h : KeyHalf} (half : h.Ok)
    (alone : h.state = .live → (k.half (partner p)).state ≠ .live) : (k.setHalf p h).Ok := by
  obtain ⟨even, odd, -⟩ := ok
  cases p
  · exact ⟨half, odd, fun both => alone both.1 both.2⟩
  · exact ⟨even, half, fun both => alone both.2 both.1⟩

/-- A decode keeps a slot in order: the STAGED half's LIVE partner becomes SPENT (R33). -/
theorem KeySlot.Ok.decoded {k : KeySlot} (ok : k.Ok) (p : Parity) : (k.decoded p).Ok := by
  have own := ok.half p
  have other := ok.half (partner p)
  unfold KeySlot.decoded
  split
  · dsimp only
    split
    · have spent : (k.setHalf (partner p) { k.half (partner p) with state := .spent }).Ok :=
        ok.setHalf ⟨fun empty => (by cases empty), other.2⟩ (fun live => by cases live)
      have live := spent.setHalf (p := p) (h := { k.half p with state := .live }) ⟨fun empty => (by cases empty), own.2⟩
        (fun _ => by rw [KeySlot.half_setHalf_self]; simp)
      cases p
      · exact live
      · exact live
    next notLive => exact ok.setHalf ⟨fun empty => (by cases empty), own.2⟩ (fun _ => notLive)
  · exact ok

theorem Write.keysOk (h : Write s t) (ok : s.KeysOk) : t.KeysOk := by
  cases h with
  | stageHalf le =>
    exact forall_get_set ok _ ((ok _).setHalf ⟨fun empty => (by cases empty), le⟩ (fun live => by cases live))
  | expireHalf slot p =>
    exact forall_get_set ok slot ((ok slot).setHalf (((ok slot).half p).tested s.clock)
      (fun live => (ok slot).not_both_live p (KeyHalf.live_of_tested live)))
  | decode => exact forall_get_set ok _ ((ok _).decoded _)
  | stageEntry => rw [s.stageEntry_onlyStages]; exact ok
  | book => rw [s.bookSale_eq]; exact ok
  | cancelQueue => rw [s.cancelQueue_eq]; exact ok
  | startPeriod => rw [s.startPeriod_eq]; exact ok
  | _ => exact ok

theorem keysOk_atStart (slot : Fin 16) : ((Vector.replicate 16 (⟨.noKey, .noKey⟩ : KeySlot)).get slot).Ok := by
  rw [get_replicate]
  exact ⟨KeyHalf.noKey_ok, KeyHalf.noKey_ok, by decide⟩

theorem blockLaw_keys : BlockLaw State.KeysOk where
  blind _ _ _ _ _ ok := ok
  cold := keysOk_atStart
  warm _ _ := keysOk_atStart
  counts _ _ _ ok := ok
  move h ok := h.writes.keeps Write.keysOk ok

end Sys2Proof.Machine
end

section
/-! PROOFS. The line-up and the keys (R1 to R11, R20, R33). -/

namespace Sys2Proof.Machine

/-- Settles O5, write by write. -/
theorem everyStepKeepsTheLineupAndTheKeys : Obligations.EveryStepKeepsTheLineupAndTheKeys :=
  ⟨blockLaw_lineup.keptByStep, blockLaw_keys.keptByStep⟩

end Sys2Proof.Machine
end

section
/-! SUPPORT. The Room Record write by write: its two bounded lists (R104, R105), its totals and cap (R99, R103, R138 to R140)
and its period (R100 to R102). -/

namespace Sys2Proof.Machine

variable {s t : State}

/-! ### The bounded lists -/

theorem pushBounded_length_le {α : Type} {capacity : Nat} (room : 0 < capacity) (list : List α) (x : α) :
    (pushBounded capacity list x).length ≤ capacity := by
  simp only [pushBounded, List.length_append, List.length_drop, List.length_singleton]
  omega

theorem mem_pushBounded {α : Type} (capacity : Nat) (list : List α) (x : α) : x ∈ pushBounded capacity list x := by
  simp [pushBounded]

/-- A service added is in the preview-used list (R105). -/
theorem mem_addUsed (list : List Nat) (service : Nat) : service ∈ addUsed list service := by
  unfold addUsed
  split
  next held => simpa using held
  · exact mem_pushBounded ..

theorem addUsed_length_le {list : List Nat} (fits : list.length ≤ previewCapacity) (service : Nat) :
    (addUsed list service).length ≤ previewCapacity := by
  unfold addUsed
  split
  · exact fits
  · exact pushBounded_length_le (by decide) ..

theorem addUsed_nodup {list : List Nat} (once : list.Nodup) (service : Nat) : (addUsed list service).Nodup := by
  unfold addUsed
  split
  · exact once
  next new =>
    rw [List.contains_iff_mem] at new
    refine List.nodup_append.mpr ⟨(List.drop_sublist ..).nodup once, List.nodup_singleton _, fun x held y same => ?_⟩
    rw [List.mem_singleton.mp same]
    exact fun eq => new (eq ▸ List.mem_of_mem_drop held)

/-! ### The totals -/

theorem RoomRecord.Ok.rise {r : RoomRecord} (ok : r.Ok) (amount : Nat) : (r.rise amount).Ok := by
  obtain ⟨terms, address, session, named, -, billed, cap, rest⟩ := ok
  refine ⟨terms, address, session, named, Nat.min_le_right _ _, ?_, fun set => ?_, rest⟩
  · show billedRise _ _ _ ≤ _
    unfold billedRise
    split
    · exact Nat.min_le_right _ _
    · exact (Nat.min_le_left _ _).trans (Nat.min_le_right _ _)
  · show billedRise r.terms.cap _ _ ≤ r.terms.cap
    rw [billedRise, if_neg (show r.terms.cap ≠ 0 from set)]
    exact Nat.min_le_right _ _

theorem RoomRecord.Ok.fall {r : RoomRecord} (ok : r.Ok) (amount : Nat) : (r.fall amount).Ok := by
  obtain ⟨terms, address, session, named, spend, billed, cap, rest⟩ := ok
  exact ⟨terms, address, session, named, (Nat.sub_le ..).trans spend, (Nat.sub_le ..).trans billed,
    fun set => (Nat.sub_le ..).trans (cap set), rest⟩

theorem RoomRecord.Ok.applyDifference {r : RoomRecord} (ok : r.Ok) (credits charge : Nat) :
    (r.applyDifference credits charge).Ok := by
  unfold RoomRecord.applyDifference
  split
  · exact ok.fall _
  · split
    · exact ok.rise _
    · exact ok

/-! ### The cap period -/

/-- The next boundary is later (R100). -/
theorem lt_boundaryAfter (t capReset : Nat) : t < boundaryAfter t capReset := by
  unfold boundaryAfter
  have := Nat.div_add_mod' t daySeconds
  have := Nat.mod_lt t (show 0 < daySeconds by decide)
  split <;> omega

theorem State.period_lt_of_startPeriod (ok : ∀ p ∈ s.room.period, p.start < p.stop) :
    ∀ p ∈ s.startPeriod.room.period, p.start < p.stop := by
  unfold State.startPeriod
  split
  · rintro p ⟨⟩
    exact lt_boundaryAfter ..
  · exact ok

theorem State.period_lt_of_movedPeriod (ok : ∀ p ∈ s.room.period, p.start < p.stop) (capReset : Nat) :
    ∀ p ∈ s.movedPeriod capReset, p.start < p.stop := by
  unfold State.movedPeriod
  split
  · exact ok
  · intro p moved
    obtain ⟨q, -, rfl⟩ := Option.map_eq_some_iff.mp moved
    exact (Nat.le_max_right ..).trans_lt (lt_boundaryAfter ..)

/-! ### The Room Record -/

theorem RoomRecord.Ok.opened {c : CheckIn} (ok : s.room.Ok) (received : c.Ok) : (s.openedRoom c).Ok := by
  obtain ⟨-, address, -⟩ := ok
  refine ⟨received.terms, address, received.session.2, fun _ => received.session.1, Nat.zero_le _, Nat.zero_le _,
    fun _ => Nat.zero_le _, ?_, Nat.zero_le _, Nat.zero_le _, .nil⟩
  simp only [State.openedRoom]
  split
  · rintro p ⟨⟩
    exact lt_boundaryAfter ..
  · simp

theorem RoomRecord.Ok.closed (ok : s.room.Ok) : s.closedRoom.Ok := by
  obtain ⟨terms, address, session, -, spend, billed, cap, period, history, -⟩ := ok
  refine ⟨terms, address, session, fun occupied => ?_, spend, billed, cap, period, history, Nat.zero_le _, .nil⟩
  simp only [State.closedRoom] at occupied
  split at occupied <;> cases occupied

theorem RoomRecord.Ok.storeTerms {terms : StayTerms} (ok : s.room.Ok) (received : terms.Ok) : (s.storeTerms terms).room.Ok := by
  obtain ⟨-, address, session, named, spend, billed, -, period, lists⟩ := ok
  refine ⟨received, address, session, named, spend, billed, fun set => ?_, State.period_lt_of_movedPeriod period _, lists⟩
  simp only [State.storeTerms, storedCap] at set ⊢
  split at set
  · exact absurd rfl set
  next some =>
    rw [if_neg some]
    exact Nat.le_max_right ..

theorem RoomRecord.Ok.addUsed {r : RoomRecord} (ok : r.Ok) (service : Nat) :
    ({ r with previewUsed := Machine.addUsed r.previewUsed service } : RoomRecord).Ok := by
  obtain ⟨terms, address, session, named, spend, billed, cap, period, history, used, once⟩ := ok
  exact ⟨terms, address, session, named, spend, billed, cap, period, history, addUsed_length_le used _, addUsed_nodup once _⟩

theorem Write.roomOk (h : Write s t) (ok : s.room.Ok) : t.room.Ok := by
  have ⟨inRange, addressLe, sessionLe, named, spendLe, billedLe, withinCap, ends, historyLe, usedLe, once⟩ := ok
  cases h with
  | used service => exact ok.addUsed service
  | stageEntry => rw [s.stageEntry_onlyStages]; exact ok
  | cancelQueue => rw [s.cancelQueue_eq]; exact ok
  | book =>
    rw [s.bookSale_eq]
    obtain ⟨_, _, _, _, risen, charged, capped, _⟩ := ok.rise (s.saleAmount _)
    exact ⟨inRange, addressLe, sessionLe, named, risen, charged, capped, ends, pushBounded_length_le (by decide) ..,
      addUsed_length_le usedLe _, addUsed_nodup once _⟩
  | fall => exact ok.fall _
  | settle => exact ok.applyDifference ..
  | openRoom received => exact ok.opened received
  | closeRoom => exact ok.closed
  | terms received => exact ok.storeTerms received
  | address le => exact ⟨inRange, le, sessionLe, named, spendLe, billedLe, withinCap, ends, historyLe, usedLe, once⟩
  | vacate => exact ⟨inRange, addressLe, sessionLe, nofun, spendLe, billedLe, withinCap, ends, historyLe, usedLe, once⟩
  | startPeriod =>
    rw [s.startPeriod_eq]
    exact ⟨inRange, addressLe, sessionLe, named, spendLe, billedLe, withinCap, State.period_lt_of_startPeriod ends, historyLe,
      usedLe, once⟩
  | rollover start capReset =>
    refine ⟨inRange, addressLe, sessionLe, named, spendLe, Nat.zero_le _, fun _ => Nat.zero_le _, ?_, historyLe, usedLe, once⟩
    rintro p ⟨⟩
    exact lt_boundaryAfter ..
  | _ => exact ok

theorem blockLaw_room : BlockLaw (fun s => s.room.Ok) where
  blind _ _ _ _ _ ok := ok
  cold := by decide
  warm _ ok := ok
  counts _ _ _ ok := ok
  move h ok := h.writes.keeps Write.roomOk ok

/-! ### The vacant room -/

theorem Write.vacancyOk (h : Write s t) (ok : s.VacancyOk) : t.VacancyOk := by
  have ⟨noRental, noEntry⟩ := ok
  cases h with
  | stageEntry => rw [s.stageEntry_onlyStages]; exact ok
  | startPeriod => rw [s.startPeriod_eq]; exact ok
  | rentals => exact ⟨fun vacated => by simp [noRental vacated], noEntry⟩
  | endRental => exact ⟨fun vacated => by simp [noRental vacated], noEntry⟩
  | fewerEntries sub => exact ⟨noRental, fun vacant => List.sublist_nil.mp (noEntry vacant ▸ sub)⟩
  | head queue => exact ⟨noRental, fun vacant => absurd (noEntry vacant) (by simp [queue])⟩
  | book occupied =>
    rw [s.bookSale_eq]
    exact ⟨fun vacated => absurd occupied vacated, fun vacant => absurd (occupied.symm.trans vacant) (by decide)⟩
  | cancelQueue held =>
    have occupied : s.room.occupancy = .occupied := by
      by_contra vacated
      simp [State.rentalAt, noRental vacated] at held
    rw [s.cancelQueue_eq]
    exact ⟨fun vacated => absurd occupied vacated, fun vacant => absurd (occupied.symm.trans vacant) (by decide)⟩
  | settle =>
    have same : ∀ credits charge, (s.room.applyDifference credits charge).occupancy = s.room.occupancy := by
      intro credits charge
      unfold RoomRecord.applyDifference
      split
      · rfl
      · split <;> rfl
    simp only [State.VacancyOk, same]
    exact ok
  | openRoom => exact ⟨fun vacated => absurd rfl vacated, nofun⟩
  | closeRoom ended =>
    refine ⟨fun _ => ended, fun vacant => ?_⟩
    simp only [State.closedRoom] at vacant
    split at vacant
    · assumption
    · cases vacant
  | vacate closing queue => exact ⟨fun _ => noRental (by simp [closing]), fun _ => queue⟩
  | _ => exact ok

theorem blockLaw_vacancy : BlockLaw State.VacancyOk where
  blind _ _ _ _ _ ok := ok
  cold := by decide
  warm s ok := ⟨fun vacated => by simp [State.warmBegin, State.volatileStart, ok.1 vacated], ok.2⟩
  counts _ _ _ ok := ok
  move h ok := h.writes.keeps Write.vacancyOk ok

end Sys2Proof.Machine
end

section
/-! PROOFS. The Room Record and the vacant room (R88, R97, R99, R100, R104, R105, R112). -/

namespace Sys2Proof.Machine

/-- Settles O7, write by write. -/
theorem everyStepKeepsTheRoom : Obligations.EveryStepKeepsTheRoom :=
  ⟨blockLaw_room.keptByStep, blockLaw_vacancy.keptByStep⟩

end Sys2Proof.Machine
end

section
/-! SUPPORT. The Rental List and the Charge Queue write by write (R110 to R112, R144 to R149): the free index and the new rental of
a sale, and the queue under an entry added, entries taken out and a head that changes. -/

namespace Sys2Proof.Machine

variable {s t : State}

/-! ### The free index -/

/-- With fewer than 8 rentals the lowest free index is free (R111). -/
theorem State.rentalAt_freeIndex (place : s.rentals.length < rentalCapacity) : s.rentalAt s.freeIndex = none := by
  unfold State.freeIndex
  cases found : ([0, 1, 2, 3, 4, 5, 6, 7] : List (Fin 8)).find? (fun i => (s.rentalAt i).isNone) with
  | some i => simpa using List.find?_some found
  | none =>
    have taken : List.finRange 8 ⊆ s.rentals.map (·.index) := by
      intro i _
      have occupied := List.find?_eq_none.mp found i (by revert i; decide)
      rw [Option.isNone_iff_eq_none] at occupied
      obtain ⟨r, held⟩ := Option.ne_none_iff_exists'.mp occupied
      exact List.mem_map.mpr ⟨r, List.mem_of_find?_eq_some held, Moves.index_of_rentalAt held⟩
    have many := ((List.nodup_finRange 8).subperm taken).length_le
    rw [List.length_finRange, List.length_map] at many
    exact absurd place many.not_gt

theorem State.index_ne_freeIndex (place : s.rentals.length < rentalCapacity) :
    ∀ r ∈ s.rentals, r.index ≠ s.freeIndex := by
  simpa [State.rentalAt] using State.rentalAt_freeIndex place

/-! ### The new rental -/

/-- A sale's price entry is one of the Price Table (R113). -/
theorem State.price_of_saleOf {e : LineupEntry} {sale : Sale} (h : s.saleOf e = some sale) :
    ∃ code, sale.price = s.prices.get code := by
  unfold State.saleOf at h
  split at h
  · cases h
    exact ⟨_, rfl⟩
  · cases h
    exact ⟨_, rfl⟩
  · cases h

/-- The amount of a sale under terms and a price in their ranges (R132 to R135). -/
theorem State.saleAmount_le {sale : Sale} (price : sale.price.Ok) (factor : s.room.terms.rateFactor ≤ 2000)
    (tax : s.room.terms.tax ≤ 3000) : s.saleAmount sale ≤ 170391 := by
  obtain ⟨base, -⟩ := price
  exact (chargeAmount_le_gross ..).trans (grossPrice_le base factor tax)

theorem State.newRental_ok {sale : Sale} (price : sale.price.Ok) (amount : s.saleAmount sale ≤ 170391)
    (number : isNumber s.nextNumber) :
    (s.newRental sale (if 0 < s.saleAmount sale then some s.nextNumber else none)).Ok := by
  obtain ⟨-, -, -, low, high, grace⟩ := price
  refine ⟨low, high, grace, Nat.zero_le _, amount, ?_, ?_⟩
  · by_cases money : 0 < s.saleAmount sale <;> simp [State.newRental, money]
  · intro n charged
    simp only [State.newRental] at charged
    split at charged
    · cases charged
      exact number
    · cases charged

/-! ### The Rental List -/

theorem Rental.Continues.index {r x : Rental} (h : r.Continues x) : x.index = r.index := congrArg (·.1) h.sold
theorem Rental.Continues.service {r x : Rental} (h : r.Continues x) : x.service = r.service := congrArg (·.2.1) h.sold
theorem Rental.Continues.charge {r x : Rental} (h : r.Continues x) : x.charge = r.charge := congrArg (·.2.2.2.1) h.sold

theorem Rental.Ok.continues {r x : Rental} (ok : r.Ok) (h : r.Continues x) : x.Ok := by
  obtain ⟨low, high, grace, viewed, amount, charge, number⟩ := ok
  obtain ⟨sold, metered⟩ := h
  simp only [Prod.mk.injEq] at sold
  obtain ⟨-, -, -, sameCharge, sameAmount, sameAllowance, sameGrace, -⟩ := sold
  refine ⟨sameAllowance ▸ low, sameAllowance ▸ high, sameGrace ▸ grace, ?_, sameAmount ▸ amount, ?_, ?_⟩
  · obtain still | counted := metered
    · rw [still]
      exact viewed
    · rw [counted]
      exact Nat.min_le_right _ _
  · rw [sameCharge, sameAmount]
    exact charge
  · rw [sameCharge]
    exact number

theorem RentalsOk.map {rentals : List Rental} (ok : RentalsOk rentals) {f : Rental → Rental}
    (continues : ∀ r : Rental, r.Continues (f r)) : RentalsOk (rentals.map f) := by
  obtain ⟨few, services, indices, charges, each⟩ := ok
  have service : (fun r : Rental => r.service) ∘ f = (·.service) := funext fun r => (continues r).service
  have index : (fun r : Rental => r.index) ∘ f = (·.index) := funext fun r => (continues r).index
  have charge : (fun r : Rental => r.charge) ∘ f = (·.charge) := funext fun r => (continues r).charge
  refine ⟨by rwa [List.length_map], ?_, ?_, ?_, fun x held => ?_⟩
  · rwa [List.map_map, service]
  · rwa [List.map_map, index]
  · rwa [List.filterMap_map, charge]
  · obtain ⟨r, was, rfl⟩ := List.mem_map.mp held
    exact (each r was).continues (continues r)

theorem RentalsOk.sublist {rentals fewer : List Rental} (ok : RentalsOk rentals) (sub : fewer.Sublist rentals) :
    RentalsOk fewer := by
  obtain ⟨few, services, indices, charges, each⟩ := ok
  exact ⟨sub.length_le.trans few, (sub.map _).nodup services, (sub.map _).nodup indices, (sub.filterMap _).nodup charges,
    fun r held => each r (sub.subset held)⟩

theorem RentalsOk.append {rentals : List Rental} (ok : RentalsOk rentals) {r : Rental} (place : rentals.length < rentalCapacity)
    (service : ∀ x ∈ rentals, x.service ≠ r.service) (index : ∀ x ∈ rentals, x.index ≠ r.index)
    (charge : ∀ n ∈ r.charge, ∀ x ∈ rentals, x.charge ≠ some n) (new : r.Ok) : RentalsOk (rentals ++ [r]) := by
  obtain ⟨few, services, indices, charges, each⟩ := ok
  refine ⟨by rwa [List.length_append], ?_, ?_, ?_, fun x held => ?_⟩
  · rw [List.map_append]
    exact services.append (List.nodup_singleton _) (by simpa using service)
  · rw [List.map_append]
    exact indices.append (List.nodup_singleton _) (by simpa using index)
  · rw [List.filterMap_append]
    cases sold : r.charge with
    | none => simpa [sold] using charges
    | some n => exact charges.append (by simp [sold]) (by simpa [sold] using charge n sold)
  · obtain old | made := List.mem_append.mp held
    · exact each x old
    · rw [List.mem_singleton.mp made]
      exact new

/-! ### The Charge Queue -/

theorem ChargeQueue.Ok.sublist {q : ChargeQueue} (ok : q.Ok) {entries : List QueueEntry} (sub : entries.Sublist q.entries) :
    ChargeQueue.Ok { q with entries := entries } := by
  obtain ⟨few, numbers, next, each, waiting⟩ := ok
  exact ⟨sub.length_le.trans few, (sub.map _).nodup numbers, next, fun e held => each e (sub.subset held),
    fun e behind => waiting e (sub.tail.subset behind)⟩

/-- A head that changes its state, and is DECLINED only if it is a CHARGE (R150, R152). -/
theorem ChargeQueue.Ok.head {q : ChargeQueue} (ok : q.Ok) {e : QueueEntry} {rest : List QueueEntry}
    (queue : q.entries = e :: rest) {state : ChargeState} (charge : state = .declined → e.kind = .charge) :
    ChargeQueue.Ok { q with entries := { e with state := state } :: rest } := by
  obtain ⟨few, numbers, next, each, waiting⟩ := ok
  rw [queue] at few numbers each waiting
  obtain ⟨number, low, high, tax, refers, -⟩ := each e List.mem_cons_self
  refine ⟨few, numbers, next, fun x held => ?_, waiting⟩
  obtain rfl | behind := List.mem_cons.mp held
  · exact ⟨number, low, high, tax, refers, charge⟩
  · exact each x (List.mem_cons_of_mem _ behind)

/-- A new entry joins a queue with a place for it (R144 to R148). -/
theorem ChargeQueue.Ok.enqueue (ok : s.charges.Ok) (rentals : s.rentals.length ≤ rentalCapacity)
    (place : s.charges.entries.length < queueCapacity) {kind : ChargeKind} {service amount tax : Nat}
    (money : 1 ≤ amount ∧ amount ≤ 170391) (taxed : tax ≤ 3000) (refers : ∀ n, kind = .credit n → isNumber n) :
    (s.enqueue kind service amount tax).charges.Ok := by
  obtain ⟨few, numbers, next, each, waiting⟩ := ok
  obtain ⟨number, free, -⟩ := State.nextNumber_free few rentals next
  refine ⟨?_, ?_, isNumber_succNumber number, fun e held => ?_, fun e behind => ?_⟩
  · rw [State.enqueue_length]
    exact place
  · simp only [State.enqueue, List.map_append]
    exact numbers.append (List.nodup_singleton _) (by simpa using fun e held => (free e held).1)
  · obtain old | made := List.mem_append.mp held
    · exact each e old
    · rw [List.mem_singleton.mp made]
      refine ⟨number, money.1, money.2, taxed, fun n refersTo => ?_, nofun⟩
      cases kind with
      | charge => cases refersTo
      | credit =>
        cases refersTo
        exact refers n rfl
  · simp only [State.enqueue] at behind
    cases queue : s.charges.entries with
    | nil => simp [queue] at behind
    | cons first rest =>
      rw [queue, List.cons_append, List.tail_cons] at behind
      rw [queue, List.tail_cons] at waiting
      obtain old | made := List.mem_append.mp behind
      · exact waiting e old
      · rw [List.mem_singleton.mp made]

/-- An accepted cancel answers a charge of the rental by a CREDIT of its amount (R126). -/
theorem State.charge_of_cancelCase {r : Rental} {number : Nat} (credit : s.cancelCase r = .credit number) :
    r.charge = some number := by
  unfold State.cancelCase at credit
  split at credit
  · cases credit
  next charged =>
    split at credit
    · cases credit
    · split at credit
      · split at credit <;> cases credit
        exact charged
      · cases credit
        exact charged

/-- The queue after an accepted cancel (R126). -/
theorem ChargeQueue.Ok.cancelQueue (ok : s.charges.Ok) (rentals : s.rentals.length ≤ rentalCapacity) {r : Rental} (held : r.Ok)
    (tax : s.room.terms.tax ≤ 3000) (passed : s.judgeCancel r = none) : (s.cancelQueue r).charges.Ok := by
  unfold State.cancelQueue
  split
  · exact ok
  · exact ok.sublist List.filter_sublist
  next number credit =>
    have charged := State.charge_of_cancelCase credit
    obtain ⟨-, -, -, -, high, money, numbers⟩ := held
    refine ok.enqueue rentals (State.lt_queueCapacity_of_judgeCancel passed credit)
      ⟨money.mp (by simp [charged]), high⟩ tax fun n refers => ?_
    cases refers
    exact numbers number charged

/-! ### Both -/

theorem RoomRecord.applyDifference_terms (r : RoomRecord) (credits charge : Nat) :
    (r.applyDifference credits charge).terms = r.terms := by
  unfold RoomRecord.applyDifference
  split
  · rfl
  · split <;> rfl

theorem Write.billingOk (h : Write s t) (ok : s.BillingOk) : t.BillingOk := by
  have ⟨listOk, queueOk, factorLe, taxLe, pricesOk⟩ := ok
  cases h with
  | stageEntry => rw [s.stageEntry_onlyStages]; exact ok
  | startPeriod => rw [s.startPeriod_eq]; exact ok
  | rentals continues => exact ⟨listOk.map continues, queueOk, factorLe, taxLe, pricesOk⟩
  | endRental => exact ⟨listOk.sublist List.filter_sublist, queueOk, factorLe, taxLe, pricesOk⟩
  | fewerEntries sub => exact ⟨listOk, queueOk.sublist sub, factorLe, taxLe, pricesOk⟩
  | head queue charge => exact ⟨listOk, queueOk.head queue charge, factorLe, taxLe, pricesOk⟩
  | price code received => exact ⟨listOk, queueOk, factorLe, taxLe, forall_get_set pricesOk code received⟩
  | settle =>
    refine ⟨listOk, queueOk, ?_, ?_, pricesOk⟩
    · rw [RoomRecord.applyDifference_terms]
      exact factorLe
    · rw [RoomRecord.applyDifference_terms]
      exact taxLe
  | openRoom received =>
    obtain ⟨-, -, -, factor, tax, -⟩ := received.terms
    exact ⟨listOk, queueOk, factor, tax, pricesOk⟩
  | terms received =>
    obtain ⟨-, -, -, factor, tax, -⟩ := received
    exact ⟨listOk, queueOk, factor, tax, pricesOk⟩
  | cancelQueue held passed =>
    have rentalOk := listOk.2.2.2.2 _ (List.mem_of_find?_eq_some held)
    rw [s.cancelQueue_eq]
    exact ⟨listOk, queueOk.cancelQueue listOk.1 rentalOk taxLe passed, factorLe, taxLe, pricesOk⟩
  | book occupied ofEntry new passed =>
    obtain ⟨code, price⟩ := State.price_of_saleOf ofEntry
    have priceOk := pricesOk code
    rw [← price] at priceOk
    obtain rfl := State.entry_of_saleOf ofEntry
    have amountLe := State.saleAmount_le priceOk factorLe taxLe
    have place := State.place_of_judgeMoney passed
    obtain ⟨number, -, free⟩ := State.nextNumber_free queueOk.1 listOk.1 queueOk.2.2.1
    rw [s.bookSale_eq]
    refine ⟨listOk.append place ?_ (State.index_ne_freeIndex place) ?_ (State.newRental_ok priceOk amountLe number), ?_, factorLe,
      taxLe, pricesOk⟩
    · simpa [State.rentalOf, State.newRental] using new
    · intro n charged
      simp only [State.newRental] at charged
      split at charged
      · cases charged
        exact free
      · cases charged
    · dsimp only
      split
      next money =>
        have few := State.lt_chargeLimit_of_judgeMoney passed money
        exact queueOk.enqueue listOk.1 (few.trans (by decide)) ⟨money, amountLe⟩ taxLe nofun
      · exact queueOk
  | _ => exact ok

theorem blockLaw_billing : BlockLaw State.BillingOk where
  blind _ _ _ _ _ ok := ok
  cold := by decide
  warm s ok := by
    obtain ⟨listOk, queueOk, factor, tax, -⟩ := ok
    exact ⟨listOk.map fun r => ⟨rfl, .inl rfl⟩, queueOk, factor, tax, fun code => by
      simp only [State.warmBegin, State.volatileStart, get_replicate]
      decide⟩
  counts _ _ _ ok := ok
  move h ok := h.writes.keeps Write.billingOk ok

end Sys2Proof.Machine
end

section
/-! PROOFS. The laws of the Rental List and the Charge Queue together (R110 to R112, R144 to R149). -/

namespace Sys2Proof.Machine

/-- Settles O9, write by write. -/
theorem everyStepKeepsTheBilling : Obligations.EveryStepKeepsTheBilling := blockLaw_billing.keptByStep

end Sys2Proof.Machine
end

section
/-! SUPPORT. The notice queue: a raised notice keeps it in order (R189, R190), and a start's own notice stands alone in front (R197). -/

namespace Sys2Proof.Machine

variable {s t : State}

theorem NoticePair.index_injective : Function.Injective NoticePair.index := by
  intro p q same
  cases p <;> cases q <;> simp_all [NoticePair.index, Fin.ext_iff] <;> omega

/-- There are twelve pairs (R189). -/
theorem length_le_twelve {pairs : List NoticePair} (once : pairs.Nodup) : pairs.length ≤ 12 := by
  have indices := (once.map NoticePair.index_injective).length_le_card
  simpa using indices

@[simp] theorem Notice.coalesce_pair (n : Notice) (p : NoticePair) (v : Snapshot) : (n.coalesce p v).pair = n.pair := by
  unfold Notice.coalesce
  split <;> rfl

theorem MediaLink.pairs_noticesAfter (l : MediaLink) (p : NoticePair) (v : Snapshot) (fault : Bool) :
    (l.noticesAfter p v fault).map (·.pair) = l.notices.map (·.pair) ∨
      (p ∉ l.notices.map (·.pair) ∧ (l.noticesAfter p v fault).map (·.pair) = l.notices.map (·.pair) ++ [p]) := by
  unfold MediaLink.noticesAfter
  split
  · exact .inl (by simp)
  next new =>
    split
    · exact .inr ⟨by simpa using new, by simp⟩
    · exact .inl rfl

/-- A raised notice keeps the queue in order (R189, R190). -/
theorem NoticesOk.after {l : MediaLink} (ok : NoticesOk l.notices) {p : NoticePair} {v : Snapshot} (suits : v.suits p = true)
    (fault : Bool) : NoticesOk (l.noticesAfter p v fault) := by
  obtain ⟨-, once, each⟩ := ok
  have pairs : ((l.noticesAfter p v fault).map (·.pair)).Nodup := by
    obtain same | ⟨new, added⟩ := l.pairs_noticesAfter p v fault
    · rwa [same]
    · rw [added]
      exact once.append (List.nodup_singleton p) (List.disjoint_singleton.mpr new)
  refine ⟨by simpa using length_le_twelve pairs, pairs, fun n queued => ?_⟩
  unfold MediaLink.noticesAfter at queued
  split at queued
  · obtain ⟨m, was, rfl⟩ := List.mem_map.mp queued
    obtain ⟨low, high, suited⟩ := each m was
    unfold Notice.coalesce
    split
    next same => exact ⟨Nat.le_min.mpr ⟨by omega, by decide⟩, Nat.min_le_right _ _, same ▸ suits⟩
    · exact ⟨low, high, suited⟩
  · split at queued
    · obtain was | filed := List.mem_append.mp queued
      · exact each n was
      · rw [List.mem_singleton.mp filed]
        exact ⟨by simp, by simp, suits⟩
    · exact each n queued

theorem NoticesOk.sublist {notices fewer : List Notice} (ok : NoticesOk notices) (sub : fewer.Sublist notices) :
    NoticesOk fewer := by
  obtain ⟨few, once, each⟩ := ok
  exact ⟨sub.length_le.trans few, (sub.map _).nodup once, fun n queued => each n (sub.subset queued)⟩

theorem Write.noticesOk (h : Write s t) (ok : NoticesOk s.link.notices) : NoticesOk t.link.notices := by
  cases h with
  | stageEntry => rw [s.stageEntry_onlyStages]; exact ok
  | book => rw [s.bookSale_eq]; exact ok
  | cancelQueue => rw [s.cancelQueue_eq]; exact ok
  | startPeriod => rw [s.startPeriod_eq]; exact ok
  | raise fault suits => exact ok.after suits fault
  | notices modes armed sub => exact ok.sublist sub
  | _ => exact ok

/-- A queue in order, without a START notice (R197). -/
structure StartQueue (notices : List Notice) : Prop where
  ok : NoticesOk notices
  none : NoticePair.start ∉ notices.map (·.pair)

theorem StartQueue.nil : StartQueue [] := ⟨⟨by decide, .nil, by simp⟩, by simp⟩

/-- Between starts no START notice is raised (R197). -/
theorem Write.startQueue (h : Write s t) (queue : StartQueue s.link.notices) : StartQueue t.link.notices := by
  refine ⟨h.noticesOk queue.ok, ?_⟩
  have none := queue.none
  cases h with
  | stageEntry => rw [s.stageEntry_onlyStages]; exact none
  | book => rw [s.bookSale_eq]; exact none
  | cancelQueue => rw [s.cancelQueue_eq]; exact none
  | startPeriod => rw [s.startPeriod_eq]; exact none
  | @raise p v fault suits notStart =>
    obtain same | ⟨-, added⟩ := s.link.pairs_noticesAfter p v fault
    · exact fun queued => none (same ▸ queued)
    · intro queued
      rw [show (s.raise p v fault).link.notices = s.link.noticesAfter p v fault from rfl, added] at queued
      obtain was | filed := List.mem_append.mp queued
      · exact none was
      · exact notStart (List.mem_singleton.mp filed).symm
  | notices modes armed sub => exact fun queued => none ((sub.map _).subset queued)
  | _ => exact none

/-- The START notice joins what the start itself raised (R197). -/
theorem StartQueue.raiseStart (queue : StartQueue s.link.notices) (origin : Origin) :
    NoticesOk (s.raiseStart origin).link.notices := by
  obtain ⟨⟨few, once, each⟩, none⟩ := queue
  have pairs : ((s.raiseStart origin).link.notices.map (·.pair)).Nodup := List.nodup_cons.mpr ⟨none, once⟩
  refine ⟨by simpa using length_le_twelve pairs, pairs, fun n queued => ?_⟩
  obtain rfl | was := List.mem_cons.mp queued
  · exact ⟨by simp, by simp, rfl⟩
  · exact each n was

theorem State.start_noticesOk (s : State) (retentionGood : Bool) (order : List ClockTask) :
    NoticesOk (s.start retentionGood order).link.notices := by
  unfold State.start
  split
  · exact ((Moves.warmBlocks s order).keeps Write.startQueue .nil).raiseStart _
  · have ended : StartQueue s.volatileStart.endAllRentals.link.notices :=
      (Writes.endRentals s.volatileStart _).keeps Write.startQueue .nil
    have cold : StartQueue s.coldBlocks.link.notices := by
      unfold State.coldBlocks
      dsimp only
      split
      · exact (Writes.raiseBilling _ false).keeps Write.startQueue ended
      · exact ended
    exact cold.raiseStart _

theorem Turn.noticesOk (h : Turn s t) (ok : NoticesOk s.link.notices) : NoticesOk t.link.notices := by
  cases h with
  | link => exact ok
  | restart => exact StartQueue.nil.raiseStart _
  | apart h =>
    cases h with
    | moves h => exact h.keeps Write.noticesOk ok
    | line | heard | powerLoss => exact ok
    | tick order => exact (Moves.tick s order).keeps Write.noticesOk ok
    | start retentionGood order => exact s.start_noticesOk retentionGood order

end Sys2Proof.Machine
end

section
/-! SUPPORT. The media link's receive buffer and answer list: what a request, the transmitter's choice and an arriving frame
leave of them (R184, R185). -/

namespace Sys2Proof.Machine

variable {s t : State}

/-- The bounds of the receive buffer and the answer list, without what waits for an idle transmitter (R184, R185). -/
structure MediaLink.Bounded (l : MediaLink) : Prop where
  buffer : l.buffer.length ≤ linkPlaces
  answers : l.answers.length ≤ linkPlaces
  frameLevel : ∀ r ∈ l.answers, r.frameLevel

theorem MediaLink.BuffersOk.bounded {l : MediaLink} (ok : l.BuffersOk) : l.Bounded := ⟨ok.1, ok.2.1, ok.2.2.1⟩

theorem MediaLink.Bounded.ok {l : MediaLink} (h : l.Bounded) (waits : l.tx = .idle → l.answers = [] ∧ l.buffer = []) :
    l.BuffersOk := ⟨h.buffer, h.answers, h.frameLevel, waits⟩

theorem LinksStand.buffersOk (h : LinksStand s t) (ok : s.link.BuffersOk) : t.link.BuffersOk := by
  unfold MediaLink.BuffersOk
  rwa [h.buffer, h.answers, h.tx]

theorem LinksStand.bounded (h : LinksStand s t) (ok : s.link.Bounded) : t.link.Bounded :=
  ⟨h.buffer ▸ ok.buffer, h.answers ▸ ok.answers, h.answers ▸ ok.frameLevel⟩

/-- A request handled leaves the transmitter sending (R185, R186). -/
theorem State.handle_buffersOk (ok : s.link.Bounded) (f : MlFrame) {behind : List MlFrame} (few : behind.length ≤ linkPlaces) :
    (s.handle f behind).link.BuffersOk := by
  have judged := (Moves.judgeFrame (s.setBuffer []) f).linksStand
  refine ⟨few, ?_, ?_, nofun⟩
  · show ((s.setBuffer []).judgeFrame f).1.link.answers.length ≤ _
    rw [judged.answers]
    exact ok.answers
  · show ∀ r ∈ ((s.setBuffer []).judgeFrame f).1.link.answers, _
    rw [judged.answers]
    exact ok.frameLevel

/-- The transmitter chooses as long as something waits (R185). -/
theorem State.chooseNext_buffersOk (ok : s.link.Bounded) : s.chooseNext.link.BuffersOk := by
  unfold State.chooseNext
  split
  next answers =>
    have few := ok.answers
    have frameLevel := ok.frameLevel
    rw [answers] at few frameLevel
    exact ⟨ok.buffer, (Nat.le_succ _).trans few, fun r waits => frameLevel r (List.mem_cons_of_mem _ waits), nofun⟩
  next none =>
    split
    next buffer =>
      have few := ok.buffer
      rw [buffer] at few
      exact State.handle_buffersOk ok _ ((Nat.le_succ _).trans few)
    next empty => exact ok.ok fun _ => ⟨none, empty⟩

theorem State.chooseIfIdle_buffersOk (ok : s.link.Bounded) : s.chooseIfIdle.link.BuffersOk := by
  unfold State.chooseIfIdle
  split
  · exact State.chooseNext_buffersOk ok
  next busy => exact ok.ok fun idle => absurd idle busy

theorem State.takeRestart_bounded (ok : s.link.Bounded) : s.takeRestart.link.Bounded := by
  have untuned : LinksStand { s with link := { s.link with buffer := [], tx := .idle } }
      (State.untuneAll { s with link := { s.link with buffer := [], tx := .idle } }) :=
    (Moves.foldl (fun s n => (Move.untune s n).moves) screens _).linksStand
  have ⟨buffer, answers, frameLevel⟩ := untuned.bounded ⟨Nat.zero_le _, ok.answers, ok.frameLevel⟩
  unfold State.takeRestart
  dsimp only
  generalize State.untuneAll _ = u at buffer answers frameLevel ⊢
  exact ⟨buffer, answers, frameLevel⟩

theorem State.transmitNext_buffersOk (ok : s.link.Bounded) : s.transmitNext.link.BuffersOk := by
  refine State.chooseNext_buffersOk ?_
  unfold State.finishTx
  split
  · exact State.takeRestart_bounded ok
  · exact ⟨ok.buffer, ok.answers, ok.frameLevel⟩

theorem State.addAnswer_bounded (ok : s.link.Bounded) {reply : MlReply} (level : reply.frameLevel) :
    (s.addAnswer reply).link.Bounded := by
  unfold State.addAnswer
  split
  next place =>
    refine ⟨ok.buffer, by simpa using place, fun r waits => ?_⟩
    obtain was | joined := List.mem_append.mp waits
    · exact ok.frameLevel r was
    · rw [List.mem_singleton.mp joined]
      exact level
  · exact ok

theorem State.arrive_buffersOk (ok : s.link.Bounded) (f : MlFrame) : (s.arrive f).link.BuffersOk := by
  refine State.chooseIfIdle_buffersOk ?_
  unfold State.offer
  split
  next place => exact ⟨by simpa using place, ok.answers, ok.frameLevel⟩
  · exact State.addAnswer_bounded ok ⟨.inr rfl, rfl⟩

theorem State.answerBadFrame_buffersOk (ok : s.link.Bounded) : s.answerBadFrame.link.BuffersOk :=
  State.chooseIfIdle_buffersOk (State.addAnswer_bounded ok ⟨.inl rfl, rfl⟩)

theorem State.takeMlFrame_buffersOk (ok : s.link.Bounded) (f : MlFrame) : (s.takeMlFrame f).link.BuffersOk := by
  unfold State.takeMlFrame
  split
  · exact State.transmitNext_buffersOk ok
  · exact State.arrive_buffersOk (State.transmitNext_buffersOk ok).bounded f

theorem State.mlChar_buffersOk (ok : s.link.BuffersOk) (c : Byte) : (s.mlChar c).link.BuffersOk := by
  have received : (s.setMlRx (mlRxTake s.link.rx c).1).link.BuffersOk := ok
  unfold State.mlChar
  cases (mlRxTake s.link.rx c).2 with
  | quiet => exact received
  | tooLong | badCrc => exact State.answerBadFrame_buffersOk received.bounded
  | good f => exact State.arrive_buffersOk received.bounded f

theorem State.mlChars_buffersOk (ok : s.link.BuffersOk) (chars : List Byte) : (s.mlChars chars).link.BuffersOk := by
  induction chars generalizing s with
  | nil => exact ok
  | cons c rest ih => exact ih (State.mlChar_buffersOk ok c)

theorem State.mlAbort_buffersOk (ok : s.link.BuffersOk) : s.mlAbort.link.BuffersOk := by
  unfold State.mlAbort
  split
  · exact ok
  · have hunting : (s.setMlRx .hunting).link.BuffersOk := ok
    exact State.answerBadFrame_buffersOk hunting.bounded

theorem ApartTurn.buffersOk (h : ApartTurn s t) (ok : s.link.BuffersOk) : t.link.BuffersOk := by
  cases h with
  | moves h => exact h.linksStand.buffersOk ok
  | line | heard | powerLoss => exact ok
  | tick order => exact (Moves.tick s order).linksStand.buffersOk ok
  | start retentionGood order =>
    have begun : s.volatileStart.link.BuffersOk := (by decide : MediaLink.atStart.BuffersOk)
    unfold State.start
    split
    · exact (Moves.warmBlocks s order).linksStand.buffersOk begun
    · have ended : s.volatileStart.endAllRentals.link.BuffersOk := (Writes.endRentals s.volatileStart _).linksStand.buffersOk begun
      have cold : s.coldBlocks.link.BuffersOk := by
        unfold State.coldBlocks
        dsimp only
        split
        · exact (Writes.raiseBilling _ false).linksStand.buffersOk ended
        · exact ended
      exact cold

/-- What a part with its supply does keeps the buffers, and one without does nothing (R108). -/
theorem State.ifPowered_buffersOk (ok : s.link.BuffersOk) {f : State → State} (acts : (f s).link.BuffersOk) :
    (s.ifPowered f).link.BuffersOk := by
  unfold State.ifPowered
  split
  · exact acts
  · exact ok

theorem exec_buffersOk (i : Instr) (s : State) (ok : s.link.BuffersOk) : ∃ t, exec i s = .next t ∧ t.link.BuffersOk := by
  cases linked : onMediaLink i with
  | false =>
    obtain ⟨t, answers, turns⟩ := exec_apartTurns linked s
    exact ⟨t, answers, turns.keeps ApartTurn.buffersOk ok⟩
  | true =>
    cases i with
    | mlBreak chars | mlFramingError chars =>
      exact ⟨_, rfl, State.ifPowered_buffersOk ok (State.mlAbort_buffersOk (State.mlChars_buffersOk ok chars))⟩
    | mlLengthAbort chars | mlBadCrcFrame chars =>
      exact ⟨_, rfl, State.ifPowered_buffersOk ok (State.mlChars_buffersOk ok chars)⟩
    | mlGoodFrame kind tag body =>
      have hunting : (s.setMlRx .hunting).link.BuffersOk := ok
      exact ⟨_, rfl, State.ifPowered_buffersOk ok (State.arrive_buffersOk hunting.bounded _)⟩
    | transmitComplete => exact ⟨_, rfl, State.ifPowered_buffersOk ok (State.transmitNext_buffersOk ok.bounded)⟩
    | restartTakesEffect =>
      refine ⟨_, rfl, State.ifPowered_buffersOk ok ?_⟩
      split
      · exact State.transmitNext_buffersOk ok.bounded
      · exact ok
    | mlUnknownRequest kind tag body =>
      exact ⟨_, rfl, State.ifPowered_buffersOk ok (State.takeMlFrame_buffersOk ok.bounded _)⟩
    | identify tag body | status tag body | tune tag body | untune tag body | screenReport tag body
    | lineupRead tag body | purchase tag body | cancelRental tag body | rentalsRead tag body | chargesRead tag body
    | unlock tag body | relock tag body | setCeilings tag body | setPin tag body | noticesRead tag body
    | noticeModes tag body | setRoomAddress tag body | restart tag body =>
      exact ⟨_, rfl, State.ifPowered_buffersOk ok (State.takeMlFrame_buffersOk ok.bounded _)⟩
    | _ => cases linked

end Sys2Proof.Machine
end

section
/-! PROOFS. The media link's queues (R184, R185, R189, R190). -/

namespace Sys2Proof.Machine

/-- Settles O11: the notices turn by turn, the buffers command by command. -/
theorem everyStepKeepsTheLink : Obligations.EveryStepKeepsTheLink :=
  ⟨.of_turns (fun _ _ ok => ok) Turn.noticesOk, .of_exec (fun _ _ ok => ok) exec_buffersOk⟩

end Sys2Proof.Machine
end

section
/-! SUPPORT. An admission, said once: what its verdict rests on (R47 to R50), the lane record its outcome leaves (R51), and what
then holds of the lane. -/

namespace Sys2Proof.Machine

variable {s t u : State} {n m : Screen}

/-! ### The verdict -/

/-- The rental of the service a lane is tuned to. -/
def State.tunedRental (s : State) (n : Screen) : Option Rental := (s.lane n).tuned.bind s.rentalOf

/-- A lane is tuned to a FILM or EVENT of the line-up (R1). -/
abbrev State.onSale (s : State) (n : Screen) : Prop :=
  ∃ e ∈ (s.lane n).tuned.bind s.entry, e.terms.code = 2 ∨ e.terms.code = 3

/-- What admission knows of a lane when it gives a verdict (R47 to R50, R72). -/
def Verdict.Suits (s : State) (n : Screen) : Verdict → Prop
  | .off => (s.lane n).tuned = none
  | .blank reason => (s.lane n).tuned ≠ none ∧ reason ≠ .seatWait
  | .openFree => (s.lane n).tuned ≠ none ∧ s.ratingPasses n ∧ ¬ s.onSale n
  | .seatKeep => s.ratingPasses n ∧ (s.lane n).standing = .holding ∧ ∃ r, s.tunedRental n = some r
  | .seatGrant => s.ratingPasses n ∧ (s.lane n).standing ≠ .holding ∧
      ∃ r, s.tunedRental n = some r ∧ r.seats.length < r.allowance
  | .waitJoin => (s.lane n).standing = .none ∧ ∃ r, s.tunedRental n = some r
  | .waitKeep => (s.lane n).standing = .waiting ∧ ∃ r, s.tunedRental n = some r
  | .previewKeep => s.ratingPasses n ∧ (s.lane n).tuned ≠ none ∧ s.tunedRental n = none ∧
      (s.lane n).state = .preview ∧ (s.lane n).previewEnd.isSome
  | .previewStart _ => s.ratingPasses n ∧ (s.lane n).tuned ≠ none ∧ s.tunedRental n = none

/-- A screen that the lock does not bar passes the rating compare or holds an unlock (R71, R72). -/
theorem State.ratingPasses_of_not_locked {service : Nat} {adult : Bool} (tuned : (s.lane n).tuned = some service)
    (free : s.locked n service (s.lane n).rating adult = false) : s.ratingPasses n := by
  simp only [State.locked, State.underLock, Bool.and_eq_false_iff, Bool.or_eq_false_iff, Bool.not_eq_false'] at free
  obtain ⟨under, -⟩ | holds := free
  · exact .inl under
  · refine .inr ?_
    unfold State.holdsUnlock at holds
    cases unlock : s.unlockOf n with
    | none => simp [unlock] at holds
    | some u =>
      rw [unlock, Option.any_some, beq_iff_eq] at holds
      exact ⟨u, rfl, by rw [tuned, holds]⟩

/-- Check 7 for a FILM or EVENT (R49, R50). -/
theorem State.saleVerdict_suits {service : Nat} (tuned : (s.lane n).tuned = some service) (passes : s.ratingPasses n)
    (seconds : Nat) : (s.saleVerdict n service seconds).Suits s n := by
  have named : (s.lane n).tuned ≠ none := by simp [tuned]
  have rental : s.tunedRental n = s.rentalOf service := by rw [State.tunedRental, tuned, Option.bind_some]
  unfold State.saleVerdict
  split
  next r found =>
    rw [found] at rental
    split
    next holding => exact ⟨passes, holding, r, rental⟩
    next none =>
      split
      next place => exact ⟨passes, by simp [none], r, rental, place⟩
      · exact ⟨none, r, rental⟩
    next waiting =>
      split
      next place => exact ⟨passes, by simp [waiting], r, rental, place⟩
      · exact ⟨waiting, r, rental⟩
  next absent =>
    rw [absent] at rental
    split
    next preview => exact ⟨passes, named, rental, preview⟩
    · split
      · exact ⟨passes, named, rental⟩
      · exact ⟨named, by simp⟩

/-- Check 7, by the entry's kind (R48 to R50). -/
theorem State.entitlement_suits {service : Nat} {e : LineupEntry} (tuned : (s.lane n).tuned = some service)
    (entry : s.entry service = some e) (passes : s.ratingPasses n) : (s.entitlement n e).Suits s n := by
  have named : (s.lane n).tuned ≠ none := by simp [tuned]
  have own := State.service_of_entry entry
  have notOnSale (other : ¬(e.terms.code = 2 ∨ e.terms.code = 3)) : ¬ s.onSale n := by
    rintro ⟨x, found, rented⟩
    rw [tuned, Option.bind_some, entry] at found
    cases found
    exact other rented
  unfold State.entitlement
  split
  next free => exact ⟨named, passes, notOnSale (by simp [free, Terms.code])⟩
  next number package =>
    split
    · exact ⟨named, passes, notOnSale (by simp [package, Terms.code])⟩
    · exact ⟨named, by simp⟩
  · rw [own]
    exact State.saleVerdict_suits tuned passes _
  · split
    · rw [own]
      exact State.saleVerdict_suits tuned passes _
    · exact ⟨named, by simp⟩

/-- The ordered checks of admission (R47). -/
theorem State.verdict_suits (s : State) (n : Screen) : (s.verdict n).Suits s n := by
  unfold State.verdict
  split
  next untuned => exact untuned
  next service tuned =>
    have named : (s.lane n).tuned ≠ none := by simp [tuned]
    split
    · exact ⟨named, by simp⟩
    · split
      · exact ⟨named, by simp⟩
      next e entry =>
        split
        · exact ⟨named, by simp⟩
        · split
          · exact ⟨named, by simp⟩
          · split
            · exact ⟨named, by simp⟩
            next free =>
              exact State.entitlement_suits tuned entry (State.ratingPasses_of_not_locked tuned (Bool.eq_false_iff.mpr free))

/-- A ROOM_RESET's verdict begins no preview (R66). -/
theorem Verdict.Suits.withoutPreview {v : Verdict} (h : v.Suits s n) : v.withoutPreview.Suits s n := by
  cases v with
  | previewStart seconds => exact ⟨h.2.1, by simp⟩
  | _ => exact h

/-! ### The outcome -/

/-- The lane record that an outcome leaves (R51). -/
def Verdict.outcome (s : State) (n : Screen) : Verdict → Lane
  | .off => { s.lane n with state := .off, standing := .none, previewEnd := none }
  | .blank reason => { s.lane n with state := .blank reason, standing := .none, previewEnd := none }
  | .openFree => { s.lane n with state := .opened, standing := .none, previewEnd := none }
  | .seatKeep => { s.lane n with state := .opened, standing := .holding, previewEnd := none }
  | .seatGrant => { s.lane n with state := .opened, standing := .holding, previewEnd := none }
  | .waitJoin => { s.lane n with state := .blank .seatWait, standing := .waiting, previewEnd := none }
  | .waitKeep => { s.lane n with state := .blank .seatWait, standing := .waiting, previewEnd := none }
  | .previewKeep => s.lane n
  | .previewStart seconds => { s.lane n with state := .preview, standing := .none, previewEnd := some (s.runEnd seconds) }

theorem State.lane_settle_self (s : State) (n : Screen) (v : Verdict) : (s.settle n v).lane n = v.outcome s n := by
  cases v with
  | previewKeep => rfl
  | previewStart seconds =>
    simp only [State.settle, Verdict.outcome]
    split <;> simp [State.lane_change_self]
  | _ => simp [State.settle, Verdict.outcome, State.lane_change_self]

/-- What holds of a lane that has just been admitted: it is OFF exactly when untuned, has a preview end exactly in PREVIEW, and
shows a picture only where the rating compare lets it (R42, R72). -/
structure State.Settled (s : State) (n : Screen) : Prop where
  off : (s.lane n).state = .off ↔ (s.lane n).tuned = none
  preview : (s.lane n).state = .preview ↔ (s.lane n).previewEnd.isSome
  passes : (s.lane n).state = .opened ∨ (s.lane n).state = .preview → s.ratingPasses n

/-- What is in view reads of the lock and the lanes' settings is the same. -/
theorem Viewing.ratingPasses (h : Viewing s t) : t.ratingPasses n ↔ s.ratingPasses n := by
  have settings := h.settings n
  simp only [Lane.settings, Prod.mk.injEq] at settings
  obtain ⟨tuned, -, rating, -⟩ := settings
  have lock := h.only.1
  simp only [State.ratingPasses, State.ceiling, State.unlockOf, tuned, rating]
  rw [lock]

/-- A lane that an event in view leaves as it was stays settled. -/
theorem State.Settled.viewing (settled : s.Settled n) (h : Viewing s t) (same : t.lane n = s.lane n) : t.Settled n := by
  obtain ⟨off, preview, passes⟩ := settled
  exact ⟨same ▸ off, same ▸ preview, fun shows => h.ratingPasses.mpr (passes (same ▸ shows))⟩

/-- An outcome of a fitting verdict settles its lane. -/
theorem State.settle_settled {v : Verdict} (suits : v.Suits s n) : (s.settle n v).Settled n := by
  have view := Viewing.settle s n v
  have passes := view.ratingPasses (n := n)
  have lane := State.lane_settle_self s n v
  have tuned : (v.outcome s n).tuned = (s.lane n).tuned := by cases v <;> rfl
  refine ⟨?_, ?_, ?_⟩
  · rw [lane, tuned]
    cases v with
    | off => exact iff_of_true rfl suits
    | blank | openFree => exact iff_of_false nofun suits.1
    | seatKeep =>
      obtain ⟨-, -, r, rental⟩ := suits
      refine iff_of_false nofun fun untuned => ?_
      simp [State.tunedRental, untuned] at rental
    | seatGrant =>
      obtain ⟨-, -, r, rental, -⟩ := suits
      refine iff_of_false nofun fun untuned => ?_
      simp [State.tunedRental, untuned] at rental
    | waitJoin | waitKeep =>
      obtain ⟨-, r, rental⟩ := suits
      refine iff_of_false nofun fun untuned => ?_
      simp [State.tunedRental, untuned] at rental
    | previewKeep =>
      obtain ⟨-, named, -, state, -⟩ := suits
      exact iff_of_false (by simp [Verdict.outcome, state]) named
    | previewStart => exact iff_of_false nofun suits.2.1
  · rw [lane]
    cases v with
    | previewKeep =>
      obtain ⟨-, -, -, state, stop⟩ := suits
      exact iff_of_true state stop
    | _ => simp [Verdict.outcome]
  · rw [lane]
    intro shows
    rw [passes]
    cases v with
    | off | blank | waitJoin | waitKeep => simp [Verdict.outcome] at shows
    | openFree => exact suits.2.1
    | seatKeep | seatGrant | previewKeep | previewStart => exact suits.1

/-! ### What an admission does to every lane -/

/-- From s to t lanes have been admitted: each is settled, or as it was. -/
structure Readmitted (s t : State) : Prop where
  view : Viewing s t
  each : ∀ n, t.Settled n ∨ t.lane n = s.lane n

theorem Readmitted.refl (s : State) : Readmitted s s := ⟨.refl s, fun _ => .inr rfl⟩

theorem Readmitted.settled (h : Readmitted s t) (settled : s.Settled n) : t.Settled n := by
  obtain now | same := h.each n
  · exact now
  · exact settled.viewing h.view same

theorem Readmitted.trans (h : Readmitted s t) (k : Readmitted t u) : Readmitted s u := by
  refine ⟨h.view.trans k.view, fun n => ?_⟩
  obtain now | same := h.each n
  · exact .inl (k.settled now)
  · obtain later | still := k.each n
    · exact .inl later
    · exact .inr (still.trans same)

theorem Readmitted.settle {v : Verdict} (suits : v.Suits s n) : Readmitted s (s.settle n v) where
  view := .settle s n v
  each m := by
    by_cases same : m = n
    · rw [same]
      exact .inl (State.settle_settled suits)
    · exact .inr (State.lane_settle_ne s same v)

/-- A waiter given the seat that a rental hands on, before it is judged (R55). -/
def State.give (s : State) (service : Nat) (w : Screen) : State :=
  (s.mapRental service (·.seat w)).setLane w { s.lane w with standing := .holding }

theorem handOver_cons (service : Nat) (w : Screen) (rest : List Screen) (s : State) :
    handOver service (w :: rest) s =
      if (s.give service w).verdict w = .seatKeep then (s.give service w).settle w .seatKeep
      else handOver service rest ((s.give service w).settle w ((s.give service w).verdict w)) := by
  rw [handOver]
  dsimp only
  split
  next keeps => rw [if_pos (show (s.give service w).verdict w = .seatKeep from keeps)]; rfl
  next other => rw [if_neg (show (s.give service w).verdict w ≠ .seatKeep from other)]; rfl

theorem Viewing.give (s : State) (service : Nat) (w : Screen) : Viewing s (s.give service w) :=
  (Viewing.mapRental s service (·.seat w) (fun _ => rfl)).trans (.setLane _ w _ rfl)

theorem State.lane_give_self (s : State) (service : Nat) (w : Screen) :
    (s.give service w).lane w = { s.lane w with standing := .holding } := State.lane_setLane_self ..

theorem State.lane_give_ne (s : State) (service : Nat) {w m : Screen} (h : m ≠ w) :
    (s.give service w).lane m = s.lane m := State.lane_setLane_ne _ h _

/-- A lane that is given a seat and settled is settled; the others are as they were. -/
theorem Readmitted.give (s : State) (service : Nat) (w : Screen) :
    Readmitted s ((s.give service w).settle w ((s.give service w).verdict w)) := by
  refine ⟨(Viewing.give s service w).trans (.settle ..), fun m => ?_⟩
  by_cases same : m = w
  · rw [same]
    exact .inl (State.settle_settled (State.verdict_suits _ w))
  · exact .inr ((State.lane_settle_ne _ same _).trans (s.lane_give_ne service same))

theorem Readmitted.handOver (service : Nat) (waiting : List Screen) (s : State) :
    Readmitted s (Machine.handOver service waiting s) := by
  induction waiting generalizing s with
  | nil => exact .refl s
  | cons w rest ih =>
    have given := Readmitted.give s service w
    rw [handOver_cons]
    split
    next keeps => rwa [keeps] at given
    · exact given.trans (ih _)

theorem Readmitted.handOn (s : State) (before : Lane) : Readmitted s (s.handOn before) := by
  unfold State.handOn
  split
  · exact .handOver ..
  · exact .refl s

/-- An outcome taken settles its lane, and leaves the others settled or as they were (R51, R55). -/
theorem Readmitted.admitAs {v : Verdict} (suits : v.Suits s n) :
    Readmitted s (s.admitAs n v) ∧ (s.admitAs n v).Settled n := by
  have settled := Readmitted.settle suits
  have own := State.settle_settled suits
  unfold State.admitAs
  split
  · have handed := Readmitted.handOn (s.settle n v) (s.lane n)
    exact ⟨settled.trans handed, handed.settled own⟩
  · exact ⟨settled, own⟩

/-- Lanes admitted one at a time, in the order of the list (R53). -/
inductive Admits : List Screen → State → State → Prop
  | nil (s : State) : Admits [] s s
  | cons {s t : State} {n : Screen} {v : Verdict} {order : List Screen} (suits : v.Suits s n)
      (rest : Admits order (s.admitAs n v) t) : Admits (n :: order) s t

theorem Admits.readmitted {order : List Screen} (h : Admits order s t) :
    Readmitted s t ∧ ∀ n ∈ order, t.Settled n := by
  induction h with
  | nil s => exact ⟨.refl s, by simp⟩
  | cons suits _ ih =>
    obtain ⟨first, own⟩ := Readmitted.admitAs suits
    obtain ⟨later, settled⟩ := ih
    refine ⟨first.trans later, fun m admitted => ?_⟩
    obtain rfl | behind := List.mem_cons.mp admitted
    · exact later.settled own
    · exact settled m behind

theorem Admits.admitLane (s : State) (n : Screen) : Admits [n] s (s.admitLane n) :=
  .cons (s.verdict_suits n) (.nil _)

theorem Admits.admitEach (order : List Screen) (s : State) : Admits order s (s.admitEach order) := by
  induction order generalizing s with
  | nil => exact .nil s
  | cons n rest ih => exact .cons (s.verdict_suits n) (ih _)

theorem Admits.resetLanes (order : List Screen) (s : State) : Admits order s (order.foldl State.resetLane s) := by
  induction order generalizing s with
  | nil => exact .nil s
  | cons n rest ih =>
    rw [List.foldl_cons]
    have later := ih (s.resetLane n)
    unfold State.resetLane at later ⊢
    split at later
    · rw [if_pos ‹_›]
      exact .cons (s.verdict_suits n).withoutPreview later
    · rw [if_neg ‹_›]
      exact .cons (s.verdict_suits n) later

/-- The lanes tuned to a service are admitted, in the order given (R52, R53). -/
theorem Admits.admitTuned (service : Nat) (order : List Screen) (s : State) :
    Admits (order.filter (fun n => (s.lane n).tuned = some service)) s (s.admitTuned service order) := by
  induction order generalizing s with
  | nil => exact .nil s
  | cons n rest ih =>
    rw [State.admitTuned, List.foldl_cons, State.admitIfTuned]
    by_cases tuned : (s.lane n).tuned = some service
    · rw [if_pos tuned, List.filter_cons_of_pos (by simpa using tuned)]
      have same : ∀ m, ((s.admitLane n).lane m).tuned = (s.lane m).tuned :=
        fun m => congrArg (fun x => x.1) ((Viewing.admitLane s n).settings m)
      have later := ih (s.admitLane n)
      simp only [same] at later
      exact .cons (s.verdict_suits n) later
    · rw [if_neg tuned, List.filter_cons_of_neg (by simpa using tuned)]
      exact ih s

theorem mem_screens (n : Screen) : n ∈ screens := by
  revert n
  decide

end Sys2Proof.Machine
end

section
/-! SUPPORT. The moves as the Stream Unit sees them: most leave the lanes, the lock's part in admission, the rentals and the active
table alone; the others prepare an admission and make it, tune or untune a lane, or make or end a rental. -/

namespace Sys2Proof.Machine

variable {s t u : State}

/-! ### What leaves the lanes alone -/

/-- From s to t nothing differs that an admission reads or writes of the lanes, the ceilings, the unlocks, the Rental List and the
active table. -/
structure Apart (s t : State) : Prop where
  lanes : t.lanes = s.lanes
  unlocks : t.lock.unlocks = s.lock.unlocks
  ceilings : t.lock.ceilings = s.lock.ceilings
  rentals : t.rentals = s.rentals
  active : t.lineup.active = s.lineup.active

namespace Apart

theorem refl (s : State) : Apart s s := ⟨rfl, rfl, rfl, rfl, rfl⟩

theorem trans (h : Apart s t) (k : Apart t u) : Apart s u :=
  ⟨k.lanes.trans h.lanes, k.unlocks.trans h.unlocks, k.ceilings.trans h.ceilings, k.rentals.trans h.rentals,
    k.active.trans h.active⟩

theorem ite {p : Prop} [Decidable p] (h : Apart s t) (k : Apart s u) : Apart s (if p then t else u) := by
  split
  · exact h
  · exact k

theorem raise (s : State) (p : NoticePair) (v : Snapshot) (fault : Bool) : Apart s (s.raise p v fault) :=
  ⟨rfl, rfl, rfl, rfl, rfl⟩

theorem latch (s : State) (f : Latched → Latched) : Apart s (s.latch f) := ⟨rfl, rfl, rfl, rfl, rfl⟩

theorem setEntries (s : State) (entries : List QueueEntry) : Apart s (s.setEntries entries) := ⟨rfl, rfl, rfl, rfl, rfl⟩

theorem loadKey (s : State) (k : KeyLoad) : Apart s (s.loadKey k) := ite (latch ..) ⟨rfl, rfl, rfl, rfl, rfl⟩

theorem stageEntry (s : State) (e : LineupEntry) : Apart s (s.stageEntry e) := by
  unfold State.stageEntry
  split
  · exact latch ..
  · exact refl s
  · refine ite ⟨rfl, rfl, rfl, rfl, rfl⟩ ⟨rfl, rfl, rfl, rfl, ?_⟩
    show (s.lineup.take _ e).active = s.lineup.active
    unfold LineupTable.take
    split <;> rfl

theorem pinAttempt (s : State) (pin carried : Nat) : Apart s (s.pinAttempt pin carried).1 := by
  unfold State.pinAttempt
  split
  · exact refl s
  · split
    · exact ite (refl s) ⟨rfl, rfl, rfl, rfl, rfl⟩
    · exact ite ⟨rfl, rfl, rfl, rfl, rfl⟩ ⟨rfl, rfl, rfl, rfl, rfl⟩

theorem closeIfEmpty (s : State) : Apart s s.closeIfEmpty := ite ⟨rfl, rfl, rfl, rfl, rfl⟩ (refl s)

theorem collectHead (s : State) : Apart s s.collectHead := by
  unfold State.collectHead
  split
  · exact refl s
  · exact ite (setEntries ..) (refl s)

theorem confirmCharge (s : State) (n : Nat) : Apart s (s.confirmCharge n).1 := by
  unfold State.confirmCharge
  split
  · exact refl s
  · split
    · exact refl s
    · split
      · exact (setEntries ..).trans (closeIfEmpty _)
      · exact refl s

theorem declineCharge (s : State) (n : Nat) : Apart s (s.declineCharge n).1 := by
  unfold State.declineCharge
  split
  · exact refl s
  · split
    · exact refl s
    · split
      · exact (latch .. : Apart s s.latchMessageError)
      · split
        · exact (setEntries ..).trans (raise ..)
        · exact refl s

theorem withTotals (s : State) (r : RoomRecord) : Apart s (s.withTotals r) := ite ⟨rfl, rfl, rfl, rfl, rfl⟩ ⟨rfl, rfl, rfl, rfl, rfl⟩

theorem settleCharge (s : State) (head : QueueEntry) : Apart s (s.settleCharge head) := (setEntries ..).trans (withTotals ..)

theorem endHold (s : State) : Apart s s.endHold := (raise ..).trans (closeIfEmpty _)

theorem addressRequest (s : State) (address : Nat) : Apart s (s.addressRequest address).1 := by
  unfold State.addressRequest
  split
  · exact refl s
  · exact ite ⟨rfl, rfl, rfl, rfl, rfl⟩ ⟨rfl, rfl, rfl, rfl, rfl⟩

theorem startPeriod (s : State) : Apart s s.startPeriod := ite ⟨rfl, rfl, rfl, rfl, rfl⟩ (refl s)

theorem periodTest (s : State) : Apart s s.periodTest := ite ⟨rfl, rfl, rfl, rfl, rfl⟩ (refl s)

theorem silenceTest (s : State) : Apart s s.silenceTest := ite ⟨rfl, rfl, rfl, rfl, rfl⟩ (refl s)

/-- The queue's and the counters' side of a cancel (R126). -/
theorem cancelQueue (s : State) (r : Rental) (room : RoomRecord) : Apart s { s.cancelQueue r with room := room } := by
  rw [s.cancelQueue_eq]
  exact ⟨rfl, rfl, rfl, rfl, rfl⟩

end Apart

/-! ### What an admission is prepared by -/

/-- What stands before the lanes of a list are admitted: settings, ceilings and unlocks of those lanes have changed, and nothing of
any lane's service, outcome or seat; and every lane is in the list where the active table has changed. -/
structure Prepared (order : List Screen) (s u : State) : Prop where
  lane : ∀ n, ((u.lane n).tuned, (u.lane n).state, (u.lane n).keyMiss, (u.lane n).standing) =
    ((s.lane n).tuned, (s.lane n).state, (s.lane n).keyMiss, (s.lane n).standing)
  stands : ∀ n ∉ order, u.lane n = s.lane n ∧ u.ceiling n = s.ceiling n ∧ u.unlockOf n = s.unlockOf n
  unlock : ∀ n, ∀ x ∈ u.unlockOf n, x ∈ s.unlockOf n ∨ (s.lane n).tuned = some x.service
  rentals : u.rentals = s.rentals
  active : u.lineup.active = s.lineup.active ∨ ∀ n, n ∈ order

namespace Prepared

variable {order : List Screen}

theorem refl (s : State) : Prepared order s s :=
  ⟨fun _ => rfl, fun _ _ => ⟨rfl, rfl, rfl⟩, fun _ _ held => .inl held, rfl, .inl rfl⟩

theorem trans (h : Prepared order s t) (k : Prepared order t u) : Prepared order s u where
  lane n := (k.lane n).trans (h.lane n)
  stands n out := by
    obtain ⟨lane, ceiling, unlock⟩ := h.stands n out
    obtain ⟨lane', ceiling', unlock'⟩ := k.stands n out
    exact ⟨lane'.trans lane, ceiling'.trans ceiling, unlock'.trans unlock⟩
  unlock n x held := by
    obtain was | own := k.unlock n x held
    · exact h.unlock n x was
    · exact .inr ((congrArg (·.1) (h.lane n)).symm.trans own)
  rentals := k.rentals.trans h.rentals
  active := by
    obtain same | all := h.active
    · exact k.active.imp_left (·.trans same)
    · exact .inr all

/-- What leaves the lanes alone prepares any admission. -/
theorem apart (h : Apart s t) : Prepared order s t := by
  have lane : ∀ n, t.lane n = s.lane n := fun n => by rw [State.lane, h.lanes]; rfl
  have unlock : ∀ n, t.unlockOf n = s.unlockOf n := fun n => by rw [State.unlockOf, h.unlocks]; rfl
  have ceiling : ∀ n, t.ceiling n = s.ceiling n := fun n => by rw [State.ceiling, h.ceilings]; rfl
  exact ⟨fun n => by rw [lane], fun n _ => ⟨lane n, ceiling n, unlock n⟩, fun n x held => .inl (unlock n ▸ held), h.rentals,
    .inl h.active⟩

/-- A lane to be admitted takes other settings. -/
theorem setLane {n : Screen} (s : State) (named : n ∈ order) {l : Lane}
    (same : (l.tuned, l.state, l.keyMiss, l.standing) =
      ((s.lane n).tuned, (s.lane n).state, (s.lane n).keyMiss, (s.lane n).standing)) :
    Prepared order s (s.setLane n l) where
  lane m := by
    by_cases own : m = n
    · rw [own, State.lane_setLane_self, same]
    · rw [State.lane_setLane_ne s own]
  stands m out := ⟨State.lane_setLane_ne s (fun own : m = n => out (own ▸ named)) l, rfl, rfl⟩
  unlock _ _ held := .inl held
  rentals := rfl
  active := .inl rfl

/-- A screen to be admitted gets or loses an unlock, of the service it is tuned to. -/
theorem setUnlock {n : Screen} (s : State) (named : n ∈ order) {x : Option Unlock}
    (own : ∀ u ∈ x, (s.lane n).tuned = some u.service) : Prepared order s (s.setUnlock n x) where
  lane _ := rfl
  stands m out := ⟨rfl, rfl, State.unlockOf_setUnlock_ne s (fun same : m = n => out (same ▸ named)) x⟩
  unlock m u held := by
    by_cases same : m = n
    · rw [same, State.unlockOf_setUnlock_self] at held
      exact .inr (same ▸ own u held)
    · rw [State.unlockOf_setUnlock_ne s same] at held
      exact .inl held
  rentals := rfl
  active := .inl rfl

theorem setCeiling {n : Screen} (s : State) (named : n ∈ order) (quad : Rating) : Prepared order s (s.setCeiling n quad) where
  lane _ := rfl
  stands m out := ⟨rfl, State.ceiling_setCeiling_ne s (fun same : m = n => out (same ▸ named)) quad, rfl⟩
  unlock _ _ held := .inl held
  rentals := rfl
  active := .inl rfl

/-- Before all lanes are admitted the ceilings and the active table may change too, and unlocks end. -/
theorem all {s u : State} (lanes : u.lanes = s.lanes) (unlocks : ∀ n, u.unlockOf n = s.unlockOf n ∨ u.unlockOf n = none)
    (rentals : u.rentals = s.rentals) : Prepared screens s u where
  lane n := by rw [State.lane, lanes]; rfl
  stands n out := absurd (mem_screens n) out
  unlock n x held := by
    obtain same | none := unlocks n
    · exact .inl (same ▸ held)
    · simp [none] at held
  rentals := rentals
  active := .inr mem_screens

theorem foldl {f : State → Screen → State} (named : List Screen) (h : ∀ s, ∀ n ∈ named, Prepared order s (f s n)) (s : State) :
    Prepared order s (named.foldl f s) := by
  induction named generalizing s with
  | nil => exact refl s
  | cons n rest ih =>
    exact (h s n List.mem_cons_self).trans (ih (fun s m later => h s m (List.mem_cons_of_mem _ later)) _)

theorem setShutdown (s : State) (value : Bool) {named : List Screen} (all : ∀ n ∈ named, n ∈ order) :
    Prepared order s (s.setShutdown value named) :=
  foldl named (fun s n own => setLane s (all n own) (l := { s.lane n with shutdown := value }) rfl) s

theorem dropPreviews (s : State) : Prepared screens s s.dropPreviews :=
  foldl screens (fun s n own => setLane s own (l := { s.lane n with previewEnd := none }) rfl) s

theorem resetRatings (s : State) : Prepared screens s s.resetRatings := by
  refine foldl screens (fun s n own => ?_) s
  split
  · exact refl s
  · exact setLane s own rfl

end Prepared

/-! ### The moves -/

/-- A rental changed in its place with its seats kept. -/
abbrev Rental.SeatsStand (r x : Rental) : Prop :=
  (x.index, x.service, x.allowance, x.seats, x.waiting) = (r.index, r.service, r.allowance, r.seats, r.waiting)

/-- What a move does to the lanes and what they are judged by. -/
inductive Review : State → State → Prop
  | apart {s t : State} (h : Apart s t) : Review s t
  | keyMiss (s : State) {n : Screen} (miss : Bool) (shows : (s.lane n).state.shows = true) :
      Review s (s.setLane n { s.lane n with keyMiss := miss })
  | readmit {s u t : State} {order : List Screen} (prepared : Prepared order s u) (admitted : Admits order u t) : Review s t
  | tune (s : State) (n : Screen) {service : Nat} (named : 1 ≤ service ∧ service ≤ 4095) : Review s (s.tuneTo n service)
  | untune (s : State) (n : Screen) : Review s (s.untuneLane n)
  | rentals (s : State) {f : Rental → Rental} (h : ∀ r, Rental.SeatsStand r (f r)) :
      Review s { s with rentals := s.rentals.map f }
  | book (s : State) {r : Rental} (empty : r.seats = [] ∧ r.waiting = []) (service : ∀ x ∈ s.rentals, x.service ≠ r.service)
      (index : ∀ x ∈ s.rentals, x.index ≠ r.index) : Review s { s with rentals := s.rentals ++ [r] }
  | endRental (s : State) (index : Fin 8) : Review s (s.endRental index)

/-- A run of reviews. -/
abbrev Reviews : State → State → Prop := Relation.ReflTransGen Review

theorem Review.reviews (h : Review s t) : Reviews s t := .single h

theorem Apart.reviews (h : Apart s t) : Reviews s t := (Review.apart h).reviews

namespace Reviews

theorem refl (s : State) : Reviews s s := Relation.ReflTransGen.refl

theorem trans (h : Reviews s t) (k : Reviews t u) : Reviews s u := Relation.ReflTransGen.trans h k

theorem ite {p : Prop} [Decidable p] (h : Reviews s t) (k : Reviews s u) : Reviews s (if p then t else u) := by
  split
  · exact h
  · exact k

theorem foldl {α : Type} {f : State → α → State} (h : ∀ s a, Reviews s (f s a)) :
    ∀ (as : List α) (s : State), Reviews s (as.foldl f s)
  | [], s => refl s
  | a :: as, s => (h s a).trans (foldl h as (f s a))

/-- What every review keeps, a run of them keeps. -/
theorem keeps {law : State → Prop} (kept : ∀ {s t}, Review s t → law s → law t) (h : Reviews s t) (ok : law s) : law t := by
  induction h with
  | refl => exact ok
  | tail _ last ih => exact kept last ih

theorem raise (s : State) (p : NoticePair) (v : Snapshot) (fault : Bool) : Reviews s (s.raise p v fault) :=
  (Apart.raise ..).reviews

theorem admitLane {n : Screen} (prepared : Prepared [n] s u) : Reviews s (u.admitLane n) :=
  (Review.readmit prepared (.admitLane u n)).reviews

theorem admitAll (prepared : Prepared screens s u) : Reviews s u.admitAll :=
  (Review.readmit prepared (.admitEach screens u)).reviews

theorem setKeyMiss (s : State) {n : Screen} (miss : Bool) (shows : (s.lane n).state.shows = true) :
    Reviews s (s.setKeyMiss n miss) :=
  ite (refl s) ((Review.keyMiss s miss shows).reviews.trans (raise ..))

theorem expirePreview (s : State) (n : Screen) : Reviews s (s.expirePreview n) := by
  have dropped : Prepared [n] s (s.setLane n { s.lane n with previewEnd := none }) :=
    .setLane s List.mem_cons_self rfl
  unfold State.expirePreview
  dsimp only
  split
  · exact admitLane dropped
  · exact admitLane (dropped.trans (.apart ⟨rfl, rfl, rfl, rfl, rfl⟩))

theorem shutdownScreens (s : State) (value : Bool) (named : List Screen) : Reviews s (s.shutdownScreens value named) :=
  (Review.readmit (.setShutdown s value fun _ own => own) (.admitEach named (s.setShutdown value named))).reviews

theorem resetScreens (s : State) : Reviews s s.resetScreens := by
  have unlocks : Prepared screens s.dropPreviews s.dropPreviews.dropUnlocks :=
    .all rfl (fun _ => .inr (State.unlockOf_dropUnlocks ..)) rfl
  have flags : Prepared screens s.dropPreviews.dropUnlocks (s.dropPreviews.dropUnlocks.setShutdown false screens) :=
    .setShutdown _ false fun _ own => own
  exact (Review.readmit (((Prepared.dropPreviews s).trans unlocks).trans flags) (.resetLanes screens _)).reviews

theorem changePin (s : State) (pin : Option Nat) : Reviews s (s.changePin pin) := by
  have stored : Apart s { s with lock := { s.lock.noLockout with pin := pin } } := ⟨rfl, rfl, rfl, rfl, rfl⟩
  exact (admitAll (.apart stored)).trans (raise ..)

theorem commitLineup (s : State) (generation count : Nat) : Reviews s (s.commitLineup generation count) := by
  have refused : Reviews s s.refuseLineup := (⟨rfl, rfl, rfl, rfl, rfl⟩ : Apart s s.refuseLineup).reviews
  unfold State.commitLineup
  split
  · exact (Apart.latch ..).reviews
  · exact refused
  next staged filling =>
    let taken : State := { s with lineup := ⟨s.lineup.standby, staged, .idle, [], false⟩ }
    have table : Prepared screens s taken.raiseLineup := .all rfl (fun _ => .inl rfl) rfl
    exact ite (admitAll (table.trans (.resetRatings _))) refused

theorem meter (s : State) : Reviews s s.meter :=
  (Review.rentals s fun r => by split <;> rfl).reviews

theorem markWaived (s : State) (n : Nat) : Reviews s (s.markWaived n) :=
  (Review.rentals s fun r => by split <;> rfl).reviews

theorem endRental (s : State) (index : Fin 8) : Reviews s (s.endRental index) := (Review.endRental s index).reviews

theorem endRentals (s : State) (indices : List (Fin 8)) : Reviews s (s.endRentals indices) := foldl endRental indices s

theorem acceptSale {n : Screen} {e : LineupEntry} {sale : Sale} {grant : Bool} (ofEntry : s.saleOf e = some sale)
    (new : s.rentalOf e.service = none) (passed : s.judgeMoney (s.saleAmount sale) = none) :
    Reviews s (s.acceptSale n sale grant) := by
  obtain rfl := State.entry_of_saleOf ofEntry
  have listed : Reviews s { s with
      rentals := s.rentals ++ [s.newRental sale (if 0 < s.saleAmount sale then some s.nextNumber else none)] } :=
    (Review.book s ⟨rfl, rfl⟩ (by simpa [State.rentalOf, State.newRental] using new)
      (State.index_ne_freeIndex (State.place_of_judgeMoney passed))).reviews
  have booked : Reviews s (s.bookSale sale) := by
    refine listed.trans (Apart.reviews ?_)
    rw [s.bookSale_eq]
    exact ⟨rfl, rfl, rfl, rfl, rfl⟩
  have lanes : (s.bookSale sale).lanes = s.lanes := by rw [s.bookSale_eq]
  have admitted : ∀ u : State, Prepared ((purchaseOrder n).filter (fun m => (u.lane m).tuned = some sale.entry.service))
      (s.bookSale sale) u → Reviews s ((u.admitTuned sale.entry.service (purchaseOrder n)).raiseRentals) := fun u prepared =>
    (booked.trans (Review.readmit prepared (.admitTuned ..)).reviews).trans (raise ..)
  have sold : Reviews s (((if grant ∧ (s.lane n).tuned = some sale.entry.service then
      (s.bookSale sale).grantUnlock n sale.entry.service else s.bookSale sale).admitTuned sale.entry.service
        (purchaseOrder n)).raiseRentals) := by
    split
    next granted =>
      have tuned : ((s.bookSale sale).lane n).tuned = some sale.entry.service := by
        rw [State.lane, lanes]
        exact granted.2
      refine admitted _ (.setUnlock _ ?_ ?_)
      · exact List.mem_filter.mpr ⟨List.mem_cons_self, decide_eq_true (by rw [State.grantUnlock, State.lane_setUnlock]; exact tuned)⟩
      · rintro u ⟨⟩
        exact tuned
    · exact admitted _ (.refl _)
  exact ite (sold.trans (raise ..)) sold

theorem acceptCancel (s : State) (r : Rental) : Reviews s (s.acceptCancel r) := by
  have ended := (Apart.cancelQueue s r (s.room.fall (s.cancelAmount r))).reviews.trans (endRental _ r.index)
  exact ite ended (ended.trans (raise ..))

theorem endRentalOfCharge (s : State) (n : Nat) : Reviews s (s.endRentalOfCharge n) := by
  unfold State.endRentalOfCharge
  split
  · exact endRental ..
  · exact refl s

theorem waiveCharge (s : State) (n : Nat) : Reviews s (s.waiveCharge n).1 := by
  unfold State.waiveCharge
  split
  · exact refl s
  · exact ((Apart.settleCharge ..).reviews.trans (markWaived ..)).trans (Apart.endHold _).reviews

theorem revokeCharge (s : State) (n : Nat) : Reviews s (s.revokeCharge n).1 := by
  unfold State.revokeCharge
  split
  · exact refl s
  next head _ =>
    have settled := (Apart.settleCharge s head).reviews
    exact (settled.trans (endRentalOfCharge _ n)).trans (Apart.endHold _).reviews

theorem openStay (s : State) (c : CheckIn) : Reviews s (s.openStay c) := by
  let opened : State := { s with room := s.openedRoom c, lock := { s.lock with ceilings := Vector.replicate 4 c.ceilings } }
  have prepared : Prepared screens s (opened.dropUnlocks.storePin c.pin) :=
    .all rfl (fun n => .inr (opened.unlockOf_dropUnlocks n)) rfl
  exact (admitAll prepared).trans (raise ..)

theorem closeStay (s : State) : Reviews s s.closeStay := by
  have closed : Prepared screens s.endAllRentals
      { s.endAllRentals.dropUnlocks with room := s.endAllRentals.dropUnlocks.closedRoom } :=
    .all rfl (fun n => .inr (s.endAllRentals.unlockOf_dropUnlocks n)) rfl
  exact ((endRentals s _).trans (admitAll closed)).trans (raise ..)

theorem refreshStay (s : State) (terms : StayTerms) : Reviews s (s.refreshStay terms) := by
  have stored : Apart s (s.storeTerms terms) := ⟨rfl, rfl, rfl, rfl, rfl⟩
  exact (admitAll (.apart stored)).trans (raise ..)

end Reviews

/-- Every move is a run of reviews. -/
theorem Move.reviews (h : Move s t) : Reviews s t := by
  cases h with
  | raise | latch | place | readNotices | setModes | endLockout | expireHalf | decode | beginLineup | setPrice | setClock =>
    exact Apart.reviews ⟨rfl, rfl, rfl, rfl, rfl⟩
  | readmit n => exact .admitLane (.refl s)
  | keyMiss miss shows => exact .setKeyMiss s miss shows
  | rate n quad => exact .admitLane (.setLane s List.mem_cons_self rfl)
  | tune n named => exact (Review.tune s n named).reviews
  | untune n => exact (Review.untune s n).reviews
  | expirePreview => exact .expirePreview s _
  | shutdown value named => exact .shutdownScreens s value named
  | resetScreens => exact .resetScreens s
  | endUnlock n => exact .admitLane (.setUnlock s List.mem_cons_self (by simp))
  | unlock tuned => exact .admitLane (.setUnlock s List.mem_cons_self (by rintro u ⟨⟩; exact tuned))
  | limit n => exact .admitLane (.setCeiling s List.mem_cons_self _)
  | changePin => exact .changePin s _
  | attempt => exact (Apart.pinAttempt ..).reviews
  | loadKey => exact (Apart.loadKey ..).reviews
  | stageEntry => exact (Apart.stageEntry ..).reviews
  | commitLineup generation count => exact .commitLineup s generation count
  | endRental index => exact .endRental s index
  | meter => exact .meter s
  | sell n grant occupied entry ofEntry new passed => exact .acceptSale ofEntry new passed
  | cancel => exact .acceptCancel s _
  | collect => exact (Apart.collectHead s).reviews
  | confirm n => exact (Apart.confirmCharge s n).reviews
  | decline n => exact (Apart.declineCharge s n).reviews
  | waive n => exact .waiveCharge s n
  | revoke n => exact .revokeCharge s n
  | openStay => exact .openStay s _
  | closeStay => exact .closeStay s
  | refreshStay => exact .refreshStay s _
  | address => exact (Apart.addressRequest ..).reviews
  | startPeriod => exact (Apart.startPeriod s).reviews
  | testPeriod => exact (Apart.periodTest s).reviews
  | testSilence => exact (Apart.silenceTest s).reviews

end Sys2Proof.Machine
end

section
/-! SUPPORT. The laws of a lane under the reviews (R42, R72, R79): a lane that is not the event's own is settled or as it was, and
the event's own lanes are settled. -/

namespace Sys2Proof.Machine

variable {s t u : State} {n m : Screen}

/-! ### A lane that is settled or as it was -/

/-- Lane n keeps its settings, its screen its ceiling and unlock, and its outcome is settled or as it was. -/
structure Spared (s t : State) (n : Screen) : Prop where
  settings : (t.lane n).settings = (s.lane n).settings
  ceiling : t.ceiling n = s.ceiling n
  unlock : t.unlockOf n = s.unlockOf n
  each : t.Settled n ∨ ((t.lane n).state = (s.lane n).state ∧ (t.lane n).previewEnd = (s.lane n).previewEnd)

namespace Spared

theorem of_lane (lane : t.lane n = s.lane n) (ceiling : t.ceiling n = s.ceiling n) (unlock : t.unlockOf n = s.unlockOf n) :
    Spared s t n := ⟨by rw [lane], ceiling, unlock, .inr ⟨by rw [lane], by rw [lane]⟩⟩

theorem tuned (h : Spared s t n) : (t.lane n).tuned = (s.lane n).tuned := congrArg (·.1) h.settings

theorem keyMiss (h : Spared s t n) : (t.lane n).keyMiss = (s.lane n).keyMiss := congrArg (·.2.1) h.settings

theorem ratingPasses (h : Spared s t n) : t.ratingPasses n ↔ s.ratingPasses n := by
  have rating : (t.lane n).rating = (s.lane n).rating := congrArg (·.2.2.1) h.settings
  simp only [State.ratingPasses, rating, h.ceiling, h.unlock, h.tuned]

theorem trans (h : Spared s t n) (k : Spared t u n) : Spared s u n := by
  refine ⟨k.settings.trans h.settings, k.ceiling.trans h.ceiling, k.unlock.trans h.unlock, ?_⟩
  obtain later | ⟨state, stop⟩ := k.each
  · exact .inl later
  · obtain ⟨off, preview, passes⟩ | ⟨state', stop'⟩ := h.each
    · refine .inl ⟨?_, ?_, ?_⟩
      · rw [state, k.tuned]
        exact off
      · rw [state, stop]
        exact preview
      · rw [state, k.ratingPasses]
        exact passes
    · exact .inr ⟨state.trans state', stop.trans stop'⟩

end Spared

theorem Viewing.lock_eq (h : Viewing s t) : t.lock = s.lock := by
  rw [h.only.1]

theorem Viewing.unlockOf (h : Viewing s t) (n : Screen) : t.unlockOf n = s.unlockOf n := by
  rw [State.unlockOf, h.lock_eq]
  rfl

theorem Viewing.ceiling (h : Viewing s t) (n : Screen) : t.ceiling n = s.ceiling n := by
  rw [State.ceiling, h.lock_eq]
  rfl

theorem Viewing.tuned (h : Viewing s t) (n : Screen) : (t.lane n).tuned = (s.lane n).tuned :=
  congrArg (·.1) (h.settings n)

theorem Readmitted.spared (h : Readmitted s t) (n : Screen) : Spared s t n :=
  ⟨h.view.settings n, h.view.ceiling n, h.view.unlockOf n, (h.each n).imp_right fun same => by simp [same]⟩

theorem Apart.lane (h : Apart s t) (n : Screen) : t.lane n = s.lane n := by
  rw [State.lane, h.lanes]
  rfl

theorem Apart.spared (h : Apart s t) (n : Screen) : Spared s t n :=
  .of_lane (h.lane n) (by rw [State.ceiling, h.ceilings]; rfl) (by rw [State.unlockOf, h.unlocks]; rfl)

/-- A lane whose standing alone is cleared. -/
theorem Spared.clearStandings (s : State) (lanes : List Screen) (n : Screen) : Spared s (s.clearStandings lanes) n := by
  induction lanes generalizing s with
  | nil => exact .of_lane rfl rfl rfl
  | cons w rest ih =>
    refine trans ?_ (ih _)
    by_cases same : n = w
    · subst same
      refine ⟨?_, rfl, rfl, .inr ?_⟩ <;> simp [Lane.settings]
    · exact .of_lane (State.lane_setLane_ne s same _) rfl rfl

theorem Spared.endRental (s : State) (index : Fin 8) (n : Screen) : Spared s (s.endRental index) n := by
  unfold State.endRental
  split
  · exact .of_lane rfl rfl rfl
  next r _ =>
    let listed : State := { s with rentals := s.rentals.filter (fun x => x.index ≠ index) }
    have off : Spared s listed n := .of_lane rfl rfl rfl
    have cleared := off.trans (.clearStandings listed (r.seats ++ r.waiting) n)
    have admitted := (Admits.admitTuned r.service screens (listed.clearStandings (r.seats ++ r.waiting))).readmitted.1.spared n
    exact (cleared.trans admitted).trans ((Apart.raise ..).spared n)

/-- A release touches the other lanes as an admission does (R55). -/
theorem Spared.release (s : State) (n m : Screen) : Spared s (s.release n) m := by
  have left : Spared s (s.mapTunedRental n (·.without n)) m := by
    unfold State.mapTunedRental
    split <;> exact .of_lane rfl rfl rfl
  have freed : Spared (s.mapTunedRental n (·.without n))
      ((s.mapTunedRental n (·.without n)).setLane n { s.lane n with standing := .none }) m := by
    by_cases same : m = n
    · subst same
      refine ⟨?_, rfl, rfl, .inr ?_⟩ <;> simp [Lane.settings]
    · exact .of_lane (State.lane_setLane_ne _ same _) rfl rfl
  exact (left.trans freed).trans ((Readmitted.handOn _ _).spared m)

/-! ### Tuning -/

theorem State.lane_retune_ne (s : State) (service : Nat) (h : m ≠ n) : (s.retune n service).lane m = s.lane m :=
  State.lane_setLane_ne s h _

theorem State.setKeyMiss_unlocks (s : State) (n : Screen) (miss : Bool) (m : Screen) :
    (s.setKeyMiss n miss).ceiling m = s.ceiling m ∧ (s.setKeyMiss n miss).unlockOf m = s.unlockOf m := by
  unfold State.setKeyMiss
  split <;> exact ⟨rfl, rfl⟩

/-- The state in which a TUNE admits its lane: the seat released, the unlock ended and the service taken (R45). -/
def State.tuned (s : State) (n : Screen) (service : Nat) : State :=
  (((s.release n).setUnlock n none).retune n service).setKeyMiss n false

theorem State.tuneTo_eq (s : State) (n : Screen) (service : Nat) : s.tuneTo n service = (s.tuned n service).admitLane n := rfl

theorem State.lane_tuned (s : State) (n : Screen) (service : Nat) :
    (s.tuned n service).lane n = { (s.release n).lane n with
      tuned := some service, keyMiss := false, rating := (s.release n).lineupRating service, previewEnd := none } := by
  rw [State.tuned, State.lane_setKeyMiss_self, State.retune, State.lane_setLane_self]
  rfl

theorem State.unlockOf_tuned (s : State) (n : Screen) (service : Nat) : (s.tuned n service).unlockOf n = none :=
  ((State.setKeyMiss_unlocks _ n false n).2).trans (State.unlockOf_setUnlock_self ..)

theorem Spared.tuned_ne (s : State) (service : Nat) (h : m ≠ n) : Spared s (s.tuned n service) m := by
  obtain ⟨ceiling, unlock⟩ := State.setKeyMiss_unlocks (((s.release n).setUnlock n none).retune n service) n false m
  refine (Spared.release s n m).trans (.of_lane ?_ ceiling (unlock.trans ?_))
  · rw [State.tuned, State.lane_setKeyMiss_ne _ h, State.lane_retune_ne _ _ h]
    rfl
  · exact State.unlockOf_setUnlock_ne _ h none

theorem Spared.untune_ne (s : State) (h : m ≠ n) : Spared s (s.untuneLane n) m := by
  have lane (l : Lane) : (((s.release n).setUnlock n none).setLane n l).lane m = (s.release n).lane m :=
    State.lane_setLane_ne _ h l
  have unlock : ((s.release n).setUnlock n none).unlockOf m = (s.release n).unlockOf m := State.unlockOf_setUnlock_ne _ h none
  refine (Spared.release s n m).trans ?_
  unfold State.untuneLane
  dsimp only
  split
  · exact .of_lane (lane _) rfl unlock
  · exact .of_lane (lane _) rfl unlock

/-! ### The laws -/

/-- The law of one lane record and its screen's unlock (R34, R42, R79). -/
abbrev State.LaneLaw (s : State) (n : Screen) : Prop :=
  (s.lane n).Ok ∧ (∀ service ∈ (s.lane n).tuned, 1 ≤ service ∧ service ≤ 4095) ∧
    (∀ u ∈ s.unlockOf n, (s.lane n).tuned = some u.service)

/-- The law of the lock at one lane (R72). -/
abbrev State.LockLaw (s : State) (n : Screen) : Prop :=
  (s.lane n).state = .opened ∨ (s.lane n).state = .preview → s.ratingPasses n

theorem Spared.laneLaw (h : Spared s t n) (law : s.LaneLaw n) : t.LaneLaw n := by
  obtain ⟨⟨off, preview, miss⟩, range, unlock⟩ := law
  refine ⟨?_, h.tuned ▸ range, ?_⟩
  · obtain ⟨off', preview', -⟩ | ⟨state, stop⟩ := h.each
    · refine ⟨off', preview', fun isOff => ?_⟩
      rw [h.keyMiss]
      exact miss (off.mpr (h.tuned ▸ off'.mp isOff))
    · rw [Lane.Ok, state, stop, h.tuned, h.keyMiss]
      exact ⟨off, preview, miss⟩
  · rw [h.unlock, h.tuned]
    exact unlock

theorem Spared.lockLaw (h : Spared s t n) (law : s.LockLaw n) : t.LockLaw n := by
  obtain ⟨-, -, passes⟩ | ⟨state, -⟩ := h.each
  · exact passes
  · rw [State.LockLaw, state, h.ratingPasses]
    exact law

/-- Lanes that an admission was not prepared for are settled or as they were. -/
theorem Spared.of_readmit {order : List Screen} (prepared : Prepared order s u) (admitted : Admits order u t) (out : n ∉ order) :
    Spared s t n := by
  obtain ⟨lane, ceiling, unlock⟩ := prepared.stands n out
  exact (Spared.of_lane lane ceiling unlock).trans (admitted.readmitted.1.spared n)

/-- A lane that is admitted keeps its law through what prepared it. -/
theorem State.LaneLaw.readmit {order : List Screen} (prepared : Prepared order s u) (admitted : Admits order u t)
    (named : n ∈ order) (law : s.LaneLaw n) : t.LaneLaw n := by
  obtain ⟨⟨off, preview, miss⟩, range, unlock⟩ := law
  obtain ⟨readmitted, settled⟩ := admitted.readmitted
  obtain ⟨off', preview', -⟩ := settled n named
  have same := prepared.lane n
  simp only [Prod.mk.injEq] at same
  obtain ⟨tuned, -, keyMiss, -⟩ := same
  have spared := readmitted.spared n
  have tunedNow : (t.lane n).tuned = (s.lane n).tuned := spared.tuned.trans tuned
  refine ⟨⟨off', preview', fun isOff => ?_⟩, tunedNow ▸ range, fun x held => ?_⟩
  · rw [spared.keyMiss, keyMiss]
    exact miss (off.mpr (tunedNow ▸ off'.mp isOff))
  · rw [tunedNow]
    rw [spared.unlock] at held
    obtain was | own := prepared.unlock n x held
    · exact unlock x was
    · exact own

theorem Review.laneLaw (h : Review s t) (law : ∀ n, s.LaneLaw n) (n : Screen) : t.LaneLaw n := by
  cases h with
  | apart h => exact (h.spared n).laneLaw (law n)
  | rentals | book => exact law n
  | endRental index => exact (Spared.endRental s index n).laneLaw (law n)
  | readmit prepared admitted =>
    rename_i order
    by_cases named : n ∈ order
    · exact State.LaneLaw.readmit prepared admitted named (law n)
    · exact (Spared.of_readmit prepared admitted named).laneLaw (law n)
  | @keyMiss w miss shows =>
    obtain ⟨⟨off, preview, -⟩, range, unlock⟩ := law n
    by_cases own : n = w
    · subst own
      rw [State.LaneLaw, State.lane_setLane_self]
      refine ⟨⟨off, preview, fun isOff => ?_⟩, range, unlock⟩
      rw [show (s.lane n).state = .off from isOff] at shows
      cases shows
    · rw [State.LaneLaw, State.lane_setLane_ne s own]
      exact law n
  | @tune w service named =>
    rw [State.tuneTo_eq]
    obtain ⟨readmitted, settled⟩ := (Admits.admitLane (s.tuned w service) w).readmitted
    have spared := readmitted.spared n
    by_cases own : n = w
    · subst own
      obtain ⟨off, preview, -⟩ := settled n List.mem_cons_self
      have tuned : ((s.tuned n service).admitLane n |>.lane n).tuned = some service := by
        rw [spared.tuned, State.lane_tuned]
      refine ⟨⟨off, preview, fun isOff => ?_⟩, fun x held => ?_, fun x held => ?_⟩
      · rw [off.mp isOff] at tuned
        cases tuned
      · rw [tuned] at held
        cases held
        exact named
      · rw [spared.unlock, State.unlockOf_tuned] at held
        cases held
    · exact ((Spared.tuned_ne s service own).trans spared).laneLaw (law n)
  | untune w =>
    by_cases own : n = w
    · subst own
      rw [State.LaneLaw, State.lane_untuneLane, State.unlockOf_untuneLane]
      exact ⟨by simp [Lane.Ok, Lane.atStart], by simp [Lane.atStart], by simp⟩
    · exact (Spared.untune_ne s own).laneLaw (law n)

theorem Review.lockLaw (h : Review s t) (law : ∀ n, s.LockLaw n) (n : Screen) : t.LockLaw n := by
  cases h with
  | apart h => exact (h.spared n).lockLaw (law n)
  | rentals | book => exact law n
  | endRental index => exact (Spared.endRental s index n).lockLaw (law n)
  | readmit prepared admitted =>
    rename_i order
    by_cases named : n ∈ order
    · exact (admitted.readmitted.2 n named).passes
    · exact (Spared.of_readmit prepared admitted named).lockLaw (law n)
  | @keyMiss w miss shows =>
    have kept := law n
    by_cases own : n = w
    · subst own
      rw [State.LockLaw, State.ratingPasses, State.lane_setLane_self]
      exact kept
    · rw [State.LockLaw, State.ratingPasses, State.lane_setLane_ne s own]
      exact kept
  | @tune w service named =>
    rw [State.tuneTo_eq]
    obtain ⟨readmitted, settled⟩ := (Admits.admitLane (s.tuned w service) w).readmitted
    by_cases own : n = w
    · exact own ▸ (settled w List.mem_cons_self).passes
    · exact ((Spared.tuned_ne s service own).trans (readmitted.spared n)).lockLaw (law n)
  | untune w =>
    by_cases own : n = w
    · subst own
      rw [State.LockLaw, State.lane_untuneLane]
      simp [Lane.atStart]
    · exact (Spared.untune_ne s own).lockLaw (law n)

/-! ### From move to step -/

theorem State.lane_warmBegin (s : State) (n : Screen) : s.warmBegin.lane n = Lane.atStart := get_replicate n _

theorem State.unlockOf_warmBegin (s : State) (n : Screen) : s.warmBegin.unlockOf n = none := get_replicate n _

theorem blockLaw_lanes : BlockLaw State.LanesOk where
  blind _ _ _ _ _ ok := ok
  cold := by decide
  warm s _ n := by
    rw [State.lane_warmBegin, State.unlockOf_warmBegin]
    exact ⟨by decide, by simp [Lane.atStart], by simp⟩
  counts _ _ _ ok := ok
  move h ok := h.reviews.keeps (law := State.LanesOk) Review.laneLaw ok

theorem blockLaw_lockLaw : BlockLaw State.LockLawOk where
  blind _ _ _ _ _ ok := ok
  cold := by decide
  warm s _ n := by
    rw [State.lane_warmBegin]
    simp [Lane.atStart]
  counts _ _ _ ok := ok
  move h ok := h.reviews.keeps (law := State.LockLawOk) Review.lockLaw ok

end Sys2Proof.Machine
end

section
/-! PROOFS. The lane records, the unlocks and the law of the lock (R42, R72, R79). -/

namespace Sys2Proof.Machine

/-- Settles O6, review by review. -/
theorem everyStepKeepsTheLanes : Obligations.EveryStepKeepsTheLanes :=
  ⟨blockLaw_lanes.keptByStep, blockLaw_lockLaw.keptByStep⟩

end Sys2Proof.Machine
end

section
/-! SUPPORT. Seats and standings (R42, R44, R49, R119, R120): the law that admissions keep of the seat sets, the waiting lists and the
standings, and what holds of a lane's seat once it has been admitted. -/

namespace Sys2Proof.Machine

variable {s t u : State} {n m : Screen}

/-! ### The law -/

/-- A seat set within the allowance, and no lane twice in it or in the waiting list (R119, R120). -/
structure Rental.Tidy (r : Rental) : Prop where
  room : r.seats.length ≤ r.allowance
  seats : r.seats.Nodup
  waiting : r.waiting.Nodup

/-- A lane is among the holders or waiters of its service's rental exactly as its standing says (R42). -/
structure State.Placed (s : State) (n : Screen) : Prop where
  seats : ∀ r ∈ s.rentals, n ∈ r.seats ↔ (s.lane n).standing = .holding ∧ (s.lane n).tuned = some r.service
  waiting : ∀ r ∈ s.rentals, n ∈ r.waiting ↔ (s.lane n).standing = .waiting ∧ (s.lane n).tuned = some r.service
  rented : (s.lane n).standing ≠ .none → ∃ r ∈ s.rentals, (s.lane n).tuned = some r.service

/-- Seats and standings agree, whatever the lanes show (R42, R112, R119, R120). -/
structure State.SeatLaw (s : State) : Prop where
  services : (s.rentals.map (·.service)).Nodup
  indices : (s.rentals.map (·.index)).Nodup
  tidy : ∀ r ∈ s.rentals, r.Tidy
  placed : ∀ n, s.Placed n

/-- A lane shows what its standing says: it holds a seat only in OPEN, waits exactly in SEAT_WAIT, and is OPEN on a FILM or EVENT
only on a seat (R42, R44, R49). -/
structure State.Seated (s : State) (n : Screen) : Prop where
  holding : (s.lane n).standing = .holding → (s.lane n).state = .opened
  waiting : (s.lane n).state = .blank .seatWait ↔ (s.lane n).standing = .waiting
  onSale : (s.lane n).state = .opened → s.onSale n → (s.lane n).standing = .holding

/-- The kept law of the seats, lane by lane. -/
theorem State.viewingOk_iff : s.ViewingOk ↔ s.SeatLaw ∧ ∀ n, s.Seated n := by
  constructor
  · rintro ⟨⟨services, indices, seats, lanes⟩, onSale⟩
    have unique : ∀ r ∈ s.rentals, ∀ x ∈ s.rentals, r.service = x.service → r = x :=
      fun r held x held' => List.inj_on_of_nodup_map services held held'
    refine ⟨⟨services, indices, fun r held => ?_, fun n => ⟨fun r held => ?_, fun r held => ?_, fun stands => ?_⟩⟩,
      fun n => ⟨fun holding => ((lanes n).1 holding).1, (lanes n).2.2, fun opened ⟨e, entry, rented⟩ => onSale n opened e entry rented⟩⟩
    · obtain ⟨room, once, -, -⟩ := seats r held
      exact ⟨room, (List.nodup_append.mp once).1, (List.nodup_append.mp once).2.1⟩
    · obtain ⟨-, -, holders, -⟩ := seats r held
      refine ⟨fun seat => (holders n seat).symm, fun ⟨holding, tuned⟩ => ?_⟩
      obtain ⟨-, x, held', tuned', seat⟩ := (lanes n).1 holding
      rwa [unique r held x held' (Option.some.inj (tuned.symm.trans tuned'))]
    · obtain ⟨-, -, -, waiters⟩ := seats r held
      refine ⟨fun place => (waiters n place).symm, fun ⟨waits, tuned⟩ => ?_⟩
      obtain ⟨x, held', tuned', place⟩ := (lanes n).2.1 waits
      rwa [unique r held x held' (Option.some.inj (tuned.symm.trans tuned'))]
    · cases standing : (s.lane n).standing with
      | none => exact absurd standing stands
      | holding =>
        obtain ⟨-, r, held, tuned, -⟩ := (lanes n).1 standing
        exact ⟨r, held, tuned⟩
      | waiting =>
        obtain ⟨r, held, tuned, -⟩ := (lanes n).2.1 standing
        exact ⟨r, held, tuned⟩
  · rintro ⟨⟨services, indices, tidy, placed⟩, seated⟩
    refine ⟨⟨services, indices, fun r held => ⟨(tidy r held).room, ?_, fun n seat => ?_, fun n place => ?_⟩,
      fun n => ⟨fun holding => ⟨(seated n).holding holding, ?_⟩, fun waits => ?_, (seated n).waiting⟩⟩,
      fun n opened e entry rented => (seated n).onSale opened ⟨e, entry, rented⟩⟩
    · refine List.nodup_append.mpr ⟨(tidy r held).seats, (tidy r held).waiting, fun n seat w place same => ?_⟩
      subst same
      have holding := (((placed n).seats r held).mp seat).1
      have waits := (((placed n).waiting r held).mp place).1
      cases holding.symm.trans waits
    · exact (((placed n).seats r held).mp seat).symm
    · exact (((placed n).waiting r held).mp place).symm
    · obtain ⟨r, held, tuned⟩ := (placed n).rented (by simp [holding])
      exact ⟨r, held, tuned, ((placed n).seats r held).mpr ⟨holding, tuned⟩⟩
    · obtain ⟨r, held, tuned⟩ := (placed n).rented (by simp [waits])
      exact ⟨r, held, tuned, ((placed n).waiting r held).mpr ⟨waits, tuned⟩⟩

/-- One rental is of one service (R112). -/
theorem State.SeatLaw.unique (law : s.SeatLaw) {r x : Rental} (held : r ∈ s.rentals) (held' : x ∈ s.rentals)
    (same : r.service = x.service) : r = x :=
  List.inj_on_of_nodup_map law.services held held' same

/-- The rental of a lane's service is in the list. -/
theorem State.mem_of_tunedRental {r : Rental} (h : s.tunedRental n = some r) :
    r ∈ s.rentals ∧ (s.lane n).tuned = some r.service := by
  obtain ⟨service, tuned, found⟩ := Option.bind_eq_some_iff.mp h
  have own : r.service = service := beq_iff_eq.mp (List.find?_some (p := fun x : Rental => x.service == service) found)
  exact ⟨List.mem_of_find?_eq_some found, own ▸ tuned⟩

/-- A lane of a service without a rental has no standing (R42). -/
theorem State.Placed.standing_of_unrented (placed : s.Placed n) (absent : s.tunedRental n = none) :
    (s.lane n).standing = .none := by
  by_contra stands
  obtain ⟨r, held, tuned⟩ := placed.rented stands
  rw [State.tunedRental, tuned, Option.bind_some] at absent
  have other := List.find?_eq_none.mp absent r held
  simp at other

/-- The kept law reads the lanes' services and standings, and the rentals. -/
theorem State.SeatLaw.congr (law : s.SeatLaw) (lanes : ∀ n, (t.lane n).tuned = (s.lane n).tuned ∧
    (t.lane n).standing = (s.lane n).standing) (rentals : t.rentals = s.rentals) : t.SeatLaw := by
  refine ⟨rentals ▸ law.services, rentals ▸ law.indices, rentals ▸ law.tidy, fun n => ?_⟩
  obtain ⟨tuned, standing⟩ := lanes n
  have placed := law.placed n
  refine ⟨?_, ?_, ?_⟩ <;> rw [rentals, tuned, standing]
  · exact placed.seats
  · exact placed.waiting
  · exact placed.rented

/-- What a lane shows is judged by its record and the active table. -/
theorem State.Seated.congr (seated : s.Seated n) (lane : (t.lane n).tuned = (s.lane n).tuned ∧
    (t.lane n).standing = (s.lane n).standing ∧ (t.lane n).state = (s.lane n).state)
    (active : t.lineup.active = s.lineup.active) : t.Seated n := by
  obtain ⟨tuned, standing, state⟩ := lane
  have onSale : t.onSale n ↔ s.onSale n := by
    have entry : t.entry = s.entry := funext fun service => by rw [State.entry, active]; rfl
    rw [State.onSale, tuned, entry]
  refine ⟨?_, ?_, ?_⟩ <;> rw [standing, state]
  · exact seated.holding
  · exact seated.waiting
  · exact fun opened sold => seated.onSale opened (onSale.mp sold)

/-! ### One rental's seats -/

theorem Rental.Tidy.without {r : Rental} (tidy : r.Tidy) (n : Screen) : (r.without n).Tidy :=
  ⟨(List.length_filter_le ..).trans tidy.room, tidy.seats.filter _, tidy.waiting.filter _⟩

/-- A holder that leaves frees a place (R120). -/
theorem Rental.Tidy.freed {r : Rental} (tidy : r.Tidy) (held : n ∈ r.seats) : (r.without n).seats.length < r.allowance := by
  have fewer : (r.seats.filter (· ≠ n)).length < r.seats.length :=
    List.length_filter_lt_length_iff_exists.mpr ⟨n, held, by simp⟩
  exact fewer.trans_le tidy.room

theorem Rental.Tidy.seat {r : Rental} (tidy : r.Tidy) (place : r.seats.length < r.allowance) (n : Screen) : (r.seat n).Tidy := by
  have once : (r.seat n).seats.Nodup := List.Nodup.filter _ (by decide)
  have few : (r.seat n).seats ⊆ n :: r.seats := by
    intro m seat
    have among := (List.mem_filter.mp seat).2
    simpa using among
  exact ⟨((once.subperm few).length_le).trans place, once, tidy.waiting.filter _⟩

theorem Rental.Tidy.join {r : Rental} (tidy : r.Tidy) (new : n ∉ r.waiting) : (r.join n).Tidy :=
  ⟨tidy.room, tidy.seats, tidy.waiting.append (List.nodup_singleton n) (List.disjoint_singleton.mpr new)⟩

theorem Rental.mem_seats_without {r : Rental} : m ∈ (r.without n).seats ↔ m ∈ r.seats ∧ m ≠ n := by
  simp [Rental.without]

theorem Rental.mem_waiting_without {r : Rental} : m ∈ (r.without n).waiting ↔ m ∈ r.waiting ∧ m ≠ n := by
  simp [Rental.without]

theorem Rental.mem_seats_seat {r : Rental} : m ∈ (r.seat n).seats ↔ m = n ∨ m ∈ r.seats := by
  simp only [Rental.seat, List.mem_filter, mem_screens, true_and, decide_eq_true_eq]

theorem Rental.mem_waiting_seat {r : Rental} : m ∈ (r.seat n).waiting ↔ m ∈ r.waiting ∧ m ≠ n := by
  simp [Rental.seat]

theorem Rental.mem_waiting_join {r : Rental} : m ∈ (r.join n).waiting ↔ m ∈ r.waiting ∨ m = n := by
  simp [Rental.join]

/-! ### One lane reseated -/

/-- The rental of lane n's service has been changed to f of it, with the lane's standing. -/
structure Reseats (f : Rental → Rental) (n : Screen) (s t : State) : Prop where
  others : ∀ m ≠ n, t.lane m = s.lane m
  tuned : (t.lane n).tuned = (s.lane n).tuned
  rentals : t.rentals = s.rentals.map (fun r => if (s.lane n).tuned = some r.service then f r else r)

/-- What a change of a rental's seats for lane n must do to it, for the lane's new standing. -/
structure Fits (f : Rental → Rental) (n : Screen) (standing : Standing) (r : Rental) : Prop where
  index : (f r).index = r.index
  service : (f r).service = r.service
  tidy : (f r).Tidy
  others : ∀ m ≠ n, (m ∈ (f r).seats ↔ m ∈ r.seats) ∧ (m ∈ (f r).waiting ↔ m ∈ r.waiting)
  seats : n ∈ (f r).seats ↔ standing = .holding
  waiting : n ∈ (f r).waiting ↔ standing = .waiting

/-- A lane reseated in its rental keeps the law (R119, R120). -/
theorem State.SeatLaw.reseat (law : s.SeatLaw) {f : Rental → Rental} (h : Reseats f n s t)
    (fits : ∀ r ∈ s.rentals, (s.lane n).tuned = some r.service → Fits f n (t.lane n).standing r)
    (rented : (t.lane n).standing ≠ .none → ∃ r ∈ s.rentals, (s.lane n).tuned = some r.service) : t.SeatLaw := by
  let g : Rental → Rental := fun r => if (s.lane n).tuned = some r.service then f r else r
  have rentals : t.rentals = s.rentals.map g := h.rentals
  have index : ∀ r ∈ s.rentals, (g r).index = r.index := by
    intro r held
    dsimp only [g]
    split
    next own => exact (fits r held own).index
    · rfl
  have service : ∀ r ∈ s.rentals, (g r).service = r.service := by
    intro r held
    dsimp only [g]
    split
    next own => exact (fits r held own).service
    · rfl
  have member : ∀ m, ∀ r ∈ s.rentals,
      (m ∈ (g r).seats ↔ (t.lane m).standing = .holding ∧ (t.lane m).tuned = some r.service) ∧
      (m ∈ (g r).waiting ↔ (t.lane m).standing = .waiting ∧ (t.lane m).tuned = some r.service) := by
    intro m r held
    have seats := (law.placed m).seats r held
    have waiting := (law.placed m).waiting r held
    by_cases same : m = n
    · subst same
      rw [h.tuned]
      dsimp only [g]
      split
      next own => simp [(fits r held own).seats, (fits r held own).waiting, own]
      next other => simp [seats, waiting, other]
    · rw [h.others m same]
      dsimp only [g]
      split
      next own =>
        obtain ⟨seatsStand, waitingStand⟩ := (fits r held own).others m same
        exact ⟨seatsStand.trans seats, waitingStand.trans waiting⟩
      next other => exact ⟨seats, waiting⟩
  have stands : ∀ m, (t.lane m).standing ≠ .none → ∃ r ∈ s.rentals, (t.lane m).tuned = some r.service := by
    intro m stands
    by_cases same : m = n
    · subst same
      rw [h.tuned]
      exact rented stands
    · rw [h.others m same] at stands ⊢
      exact (law.placed m).rented stands
  refine ⟨?_, ?_, fun x held => ?_, fun m => ⟨fun x held => ?_, fun x held => ?_, fun standing => ?_⟩⟩
  · rw [rentals, List.map_map, List.map_congr_left (g := (·.service)) service]
    exact law.services
  · rw [rentals, List.map_map, List.map_congr_left (g := (·.index)) index]
    exact law.indices
  · obtain ⟨r, was, rfl⟩ := List.mem_map.mp (rentals ▸ held)
    dsimp only [g]
    split
    next own => exact (fits r was own).tidy
    · exact law.tidy r was
  · obtain ⟨r, was, rfl⟩ := List.mem_map.mp (rentals ▸ held)
    rw [service r was]
    exact (member m r was).1
  · obtain ⟨r, was, rfl⟩ := List.mem_map.mp (rentals ▸ held)
    rw [service r was]
    exact (member m r was).2
  · obtain ⟨r, was, tuned⟩ := stands m standing
    exact ⟨g r, rentals ▸ List.mem_map_of_mem was, (service r was).symm ▸ tuned⟩

end Sys2Proof.Machine
end

section
/-! SUPPORT. Seats through an admission (R49, R51, R55, R120): an outcome, a seat handed on, a release. Each keeps the law of the
seats, and a lane admitted shows what its standing says. -/

namespace Sys2Proof.Machine

variable {s t u : State} {n m : Screen}

/-! ### An outcome -/

theorem State.rentals_mapTunedRental (s : State) (n : Screen) (f : Rental → Rental) :
    (s.mapTunedRental n f).rentals = s.rentals.map (fun r => if (s.lane n).tuned = some r.service then f r else r) := by
  unfold State.mapTunedRental
  split
  next untuned => simp [untuned]
  next service tuned =>
    simp only [State.mapRental, tuned, Option.some.injEq, beq_iff_eq]
    exact List.map_congr_left fun r _ => by simp only [eq_comm]

@[simp] theorem State.rentals_change (s : State) (n : Screen) (state : LaneState) (standing : Standing) (stop : Option Nat) :
    (s.change n state standing stop).rentals = s.rentals := by
  unfold State.change
  split <;> rfl

/-- What an outcome makes of the rental of the lane's service (R51, R120). -/
def Verdict.reseat (n : Screen) : Verdict → Rental → Rental
  | .off | .blank _ | .openFree | .previewStart _ => (·.without n)
  | .seatGrant => (·.seat n)
  | .waitJoin => (·.join n)
  | .seatKeep | .waitKeep | .previewKeep => id

theorem State.rentals_settle (s : State) (n : Screen) (v : Verdict) :
    (s.settle n v).rentals = s.rentals.map (fun r => if (s.lane n).tuned = some r.service then v.reseat n r else r) := by
  cases v with
  | off | blank | openFree | seatGrant | waitJoin => simp [State.settle, Verdict.reseat, State.rentals_mapTunedRental]
  | seatKeep | waitKeep | previewKeep => simp [State.settle, Verdict.reseat]
  | previewStart seconds =>
    simp only [State.settle, Verdict.reseat]
    split <;> simp [State.rentals_mapTunedRental, *]

theorem State.tuned_settle (s : State) (n : Screen) (v : Verdict) (m : Screen) :
    ((s.settle n v).lane m).tuned = (s.lane m).tuned := (Viewing.settle s n v).tuned m

theorem State.settle_reseats (s : State) (n : Screen) (v : Verdict) : Reseats (v.reseat n) n s (s.settle n v) :=
  ⟨fun _ other => State.lane_settle_ne s other v, s.tuned_settle n v n, s.rentals_settle n v⟩

/-- The standing an outcome leaves (R51). -/
def Verdict.standing (old : Standing) : Verdict → Standing
  | .seatKeep | .seatGrant => .holding
  | .waitJoin | .waitKeep => .waiting
  | .previewKeep => old
  | _ => .none

theorem State.standing_settle (s : State) (n : Screen) (v : Verdict) :
    ((s.settle n v).lane n).standing = v.standing (s.lane n).standing := by
  rw [State.lane_settle_self]
  cases v <;> rfl

theorem Fits.without {r : Rental} (tidy : r.Tidy) : Fits (·.without n) n .none r where
  index := rfl
  service := rfl
  tidy := tidy.without n
  others m other := by simp [Rental.mem_seats_without, Rental.mem_waiting_without, other]
  seats := by simp [Rental.mem_seats_without]
  waiting := by simp [Rental.mem_waiting_without]

theorem Fits.seat {r : Rental} (tidy : r.Tidy) (place : r.seats.length < r.allowance) : Fits (·.seat n) n .holding r where
  index := rfl
  service := rfl
  tidy := tidy.seat place n
  others m other := by simp [Rental.mem_seats_seat, Rental.mem_waiting_seat, other]
  seats := by simp [Rental.mem_seats_seat]
  waiting := by simp [Rental.mem_waiting_seat]

theorem Fits.join {r : Rental} (tidy : r.Tidy) (seats : n ∉ r.seats) (new : n ∉ r.waiting) : Fits (·.join n) n .waiting r where
  index := rfl
  service := rfl
  tidy := tidy.join new
  others m other := ⟨.rfl, by simp [Rental.mem_waiting_join, other]⟩
  seats := iff_of_false seats nofun
  waiting := by simp [Rental.mem_waiting_join]

theorem Fits.unchanged {r : Rental} (tidy : r.Tidy) {standing : Standing} (seats : n ∈ r.seats ↔ standing = .holding)
    (waiting : n ∈ r.waiting ↔ standing = .waiting) : Fits id n standing r :=
  ⟨rfl, rfl, tidy, fun _ _ => ⟨.rfl, .rfl⟩, seats, waiting⟩

/-- A fitting verdict reseats its lane as its outcome says. -/
theorem Verdict.Suits.fits {v : Verdict} (suits : v.Suits s n) (law : s.SeatLaw) {r : Rental} (held : r ∈ s.rentals)
    (own : (s.lane n).tuned = some r.service) : Fits (v.reseat n) n (v.standing (s.lane n).standing) r := by
  have tidy := law.tidy r held
  have seats : n ∈ r.seats ↔ (s.lane n).standing = .holding := by simp [(law.placed n).seats r held, own]
  have waiting : n ∈ r.waiting ↔ (s.lane n).standing = .waiting := by simp [(law.placed n).waiting r held, own]
  cases v with
  | off | blank | openFree | previewStart => exact .without tidy
  | seatKeep =>
    obtain ⟨-, holding, -⟩ := suits
    exact .unchanged tidy (by simp [seats, holding, Verdict.standing]) (by simp [waiting, holding, Verdict.standing])
  | waitKeep =>
    obtain ⟨waits, -⟩ := suits
    exact .unchanged tidy (by simp [seats, waits, Verdict.standing]) (by simp [waiting, waits, Verdict.standing])
  | previewKeep => exact .unchanged tidy seats waiting
  | seatGrant =>
    obtain ⟨-, -, x, rental, place⟩ := suits
    obtain ⟨among, tuned⟩ := State.mem_of_tunedRental rental
    obtain rfl := law.unique among held (Option.some.inj (tuned.symm.trans own))
    exact .seat tidy place
  | waitJoin =>
    obtain ⟨none, -⟩ := suits
    exact .join tidy (by simp [seats, none]) (by simp [waiting, none])

/-- An outcome keeps the law of the seats, and its lane shows what its standing says (R49, R51). -/
theorem State.SeatLaw.settle (law : s.SeatLaw) {v : Verdict} (suits : v.Suits s n) :
    (s.settle n v).SeatLaw ∧ (s.settle n v).Seated n := by
  have view := Viewing.settle s n v
  have onSale : (s.settle n v).onSale n ↔ s.onSale n := by
    have entry : (s.settle n v).entry = s.entry := by
      obtain ⟨-, -, -, lineup, -⟩ := view.fields
      exact funext fun service => by rw [State.entry, lineup]; rfl
    rw [State.onSale, view.tuned, entry]
  refine ⟨law.reseat (s.settle_reseats n v) (fun r held own => ?_) (fun stands => ?_), ?_⟩
  · rw [s.standing_settle]
    exact suits.fits law held own
  · rw [s.standing_settle] at stands
    have rented {r : Rental} (rental : s.tunedRental n = some r) : ∃ r ∈ s.rentals, (s.lane n).tuned = some r.service :=
      ⟨r, State.mem_of_tunedRental rental⟩
    cases v with
    | off | blank | openFree | previewStart => exact absurd rfl stands
    | seatKeep =>
      obtain ⟨-, -, r, rental⟩ := suits
      exact rented rental
    | seatGrant =>
      obtain ⟨-, -, r, rental, -⟩ := suits
      exact rented rental
    | waitJoin | waitKeep =>
      obtain ⟨-, r, rental⟩ := suits
      exact rented rental
    | previewKeep => exact (law.placed n).rented stands
  · have lane := s.lane_settle_self n v
    refine ⟨?_, ?_, ?_⟩
    · rw [lane]
      cases v with
      | previewKeep =>
        obtain ⟨-, -, absent, -⟩ := suits
        simp [Verdict.outcome, (law.placed n).standing_of_unrented absent]
      | _ => simp [Verdict.outcome]
    · rw [lane]
      cases v with
      | blank reason =>
        obtain ⟨-, other⟩ := suits
        simp [Verdict.outcome, other]
      | previewKeep =>
        obtain ⟨-, -, absent, state, -⟩ := suits
        simp [Verdict.outcome, (law.placed n).standing_of_unrented absent, state]
      | _ => simp [Verdict.outcome]
    · rw [lane, onSale]
      intro opened sold
      cases v with
      | off | blank | waitJoin | waitKeep | previewStart => cases opened
      | openFree => exact absurd sold suits.2.2
      | seatKeep | seatGrant => rfl
      | previewKeep =>
        obtain ⟨-, -, -, state, -⟩ := suits
        cases state.symm.trans opened

/-- An outcome that gives up its lane's seat leaves a place in the rental (R51, R55). -/
theorem State.SeatLaw.freed (law : s.SeatLaw) {f : Rental → Rental} {before : Rental} (held : before ∈ s.rentals)
    (holding : (s.lane n).standing = .holding) (own : (s.lane n).tuned = some before.service)
    (rentals : t.rentals = s.rentals.map (fun r => if (s.lane n).tuned = some r.service then f r else r))
    (leaves : ∀ r, f r = r.without n) :
    ∀ r ∈ t.rentals, r.service = before.service → r.seats.length < r.allowance := by
  have seat := ((law.placed n).seats before held).mpr ⟨holding, own⟩
  have freed := (law.tidy before held).freed seat
  intro x among service
  obtain ⟨r, was, rfl⟩ := List.mem_map.mp (rentals ▸ among)
  by_cases same : (s.lane n).tuned = some r.service
  · rw [if_pos same, leaves]
    obtain rfl := law.unique was held (Option.some.inj (same.symm.trans own))
    exact freed
  · rw [if_neg same] at service
    exact absurd (service ▸ own) same

/-! ### What admissions do to the seats -/

/-- From s to t lanes have been admitted: the law of the seats is kept, and a lane either shows what its standing says or is as it
was. -/
structure Reseated (s t : State) : Prop where
  view : Viewing s t
  law : s.SeatLaw → t.SeatLaw
  each : s.SeatLaw → ∀ n, t.Seated n ∨ t.lane n = s.lane n

theorem Reseated.refl (s : State) : Reseated s s := ⟨.refl s, id, fun _ _ => .inr rfl⟩

theorem Viewing.active (h : Viewing s t) : t.lineup.active = s.lineup.active := by
  obtain ⟨-, -, -, lineup, -⟩ := h.fields
  rw [lineup]

theorem State.Seated.viewing (seated : s.Seated n) (h : Viewing s t) (same : t.lane n = s.lane n) : t.Seated n :=
  seated.congr (by simp [same]) h.active

theorem Reseated.seated (h : Reseated s t) (law : s.SeatLaw) (seated : s.Seated n) : t.Seated n := by
  obtain now | same := h.each law n
  · exact now
  · exact seated.viewing h.view same

theorem Reseated.trans (h : Reseated s t) (k : Reseated t u) : Reseated s u := by
  refine ⟨h.view.trans k.view, fun law => k.law (h.law law), fun law n => ?_⟩
  obtain now | same := h.each law n
  · exact .inl (k.seated (h.law law) now)
  · exact (k.each (h.law law) n).imp_right (·.trans same)

theorem Reseated.settle {v : Verdict} (suits : v.Suits s n) : Reseated s (s.settle n v) where
  view := .settle s n v
  law law := (law.settle suits).1
  each law m := by
    by_cases same : m = n
    · rw [same]
      exact .inl (law.settle suits).2
    · exact .inr (State.lane_settle_ne s same v)

/-! ### A seat handed on -/

/-- The lanes that a seat can be offered to: they wait for the service, whose rental has a place (R55, R120). -/
structure Offered (service : Nat) (waiting : List Screen) (s : State) : Prop where
  waits : ∀ w ∈ waiting, (s.lane w).standing = .waiting ∧ (s.lane w).tuned = some service
  once : waiting.Nodup
  place : ∀ r ∈ s.rentals, r.service = service → r.seats.length < r.allowance

theorem State.give_reseats {service : Nat} (tuned : (s.lane n).tuned = some service) :
    Reseats (·.seat n) n s (s.give service n) where
  others m other := s.lane_give_ne service other
  tuned := by rw [s.lane_give_self]
  rentals := by
    simp only [State.give, State.setLane_rentals, State.mapRental, tuned, Option.some.injEq, beq_iff_eq]
    exact List.map_congr_left fun r _ => by simp only [eq_comm]

/-- The first lane offered takes the seat, and keeps it or leaves it to the others (R55). -/
theorem Offered.give {service : Nat} {w : Screen} {rest : List Screen} (offered : Offered service (w :: rest) s)
    (law : s.SeatLaw) {v : Verdict} (judged : (s.give service w).verdict w = v) :
    ((s.give service w).settle w v).SeatLaw ∧ ((s.give service w).settle w v).Seated w ∧
      (v ≠ .seatKeep → Offered service rest ((s.give service w).settle w v)) := by
  obtain ⟨waiting, tuned⟩ := offered.waits w List.mem_cons_self
  have reseats := State.give_reseats tuned
  have standing : ((s.give service w).lane w).standing = .holding := by rw [s.lane_give_self]
  obtain ⟨r, held, own⟩ := (law.placed w).rented (by simp [waiting])
  have given : (s.give service w).SeatLaw := by
    refine law.reseat reseats (fun x among same => ?_) fun _ => ⟨r, held, own⟩
    rw [standing]
    exact .seat (law.tidy x among) (offered.place x among (Option.some.inj (same.symm.trans tuned)))
  have suits : v.Suits (s.give service w) w := judged ▸ State.verdict_suits _ w
  obtain ⟨settled, seated⟩ := given.settle suits
  refine ⟨settled, seated, fun other => ⟨fun m later => ?_, (List.nodup_cons.mp offered.once).2, ?_⟩⟩
  · have apart : m ≠ w := fun same => (List.nodup_cons.mp offered.once).1 (same ▸ later)
    rw [State.lane_settle_ne _ apart, s.lane_give_ne service apart]
    exact offered.waits m (List.mem_cons_of_mem _ later)
  · obtain ⟨x, among, ownNow⟩ := (given.placed w).rented (by simp [standing])
    have leaves : ∀ r, v.reseat w r = r.without w := by
      have absent : (s.give service w).tunedRental w ≠ none := fun absent => by
        have none := (given.placed w).standing_of_unrented absent
        cases standing.symm.trans none
      intro r
      cases v with
      | off | blank | openFree => rfl
      | seatKeep => exact absurd rfl other
      | seatGrant => exact absurd standing suits.2.1
      | waitJoin | waitKeep => cases standing.symm.trans suits.1
      | previewKeep => exact absurd suits.2.2.1 absent
      | previewStart => rfl
    have sameService : x.service = service := by
      rw [reseats.tuned, tuned] at ownNow
      exact (Option.some.inj ownNow).symm
    have places := given.freed among standing ownNow (State.rentals_settle _ w v) leaves
    exact fun y yHeld same => places y yHeld (same.trans sameService.symm)

/-- A seat handed on keeps the law of the seats, and the lanes it is offered to are admitted (R55, R120). -/
theorem State.SeatLaw.handOver {service : Nat} {waiting : List Screen} (law : s.SeatLaw)
    (offered : Offered service waiting s) :
    (handOver service waiting s).SeatLaw ∧
      ∀ n, (Machine.handOver service waiting s).Seated n ∨ (Machine.handOver service waiting s).lane n = s.lane n := by
  induction waiting generalizing s with
  | nil => exact ⟨law, fun _ => .inr rfl⟩
  | cons w rest ih =>
    obtain ⟨settled, seated, next⟩ := offered.give law rfl
    have others : ∀ n ≠ w, ((s.give service w).settle w ((s.give service w).verdict w)).lane n = s.lane n :=
      fun n other => (State.lane_settle_ne _ other _).trans (s.lane_give_ne service other)
    rw [handOver_cons]
    split
    next keeps =>
      rw [keeps] at settled seated others
      refine ⟨settled, fun n => ?_⟩
      by_cases same : n = w
      · exact .inl (same ▸ seated)
      · exact .inr (others n same)
    next other =>
      obtain ⟨law', each⟩ := ih settled (next other)
      refine ⟨law', fun n => ?_⟩
      obtain now | still := each n
      · exact .inl now
      · by_cases same : n = w
        · subst same
          exact .inl (seated.viewing (Viewing.handOver ..) still)
        · exact .inr (still.trans (others n same))

/-- A lane that is not offered the seat is as it was (R55). -/
theorem State.lane_handOver_ne {service : Nat} {waiting : List Screen} (out : n ∉ waiting) :
    (handOver service waiting s).lane n = s.lane n := by
  induction waiting generalizing s with
  | nil => rfl
  | cons w rest ih =>
    have apart : n ≠ w := List.ne_of_not_mem_cons out
    have step : ((s.give service w).settle w ((s.give service w).verdict w)).lane n = s.lane n :=
      (State.lane_settle_ne _ apart _).trans (s.lane_give_ne service apart)
    rw [handOver_cons]
    split
    next keeps => rwa [keeps] at step
    · exact (ih (List.not_mem_of_not_mem_cons out)).trans step

theorem State.mem_waitingOf {service : Nat} {w : Screen} (h : w ∈ s.waitingOf service) :
    ∃ r ∈ s.rentals, r.service = service ∧ w ∈ r.waiting := by
  unfold State.waitingOf at h
  split at h
  next r found =>
    exact ⟨r, List.mem_of_find?_eq_some found,
      beq_iff_eq.mp (List.find?_some (p := fun x : Rental => x.service == service) found), h⟩
  · cases h

/-- The waiting list of a rental with a place can be offered the seat (R55, R120). -/
theorem State.SeatLaw.offered {service : Nat} (law : s.SeatLaw)
    (place : ∀ r ∈ s.rentals, r.service = service → r.seats.length < r.allowance) :
    Offered service (s.waitingOf service) s where
  waits w waits := by
    obtain ⟨r, held, rfl, among⟩ := State.mem_waitingOf waits
    exact ((law.placed w).waiting r held).mp among
  once := by
    unfold State.waitingOf
    split
    next r found => exact (law.tidy r (List.mem_of_find?_eq_some found)).waiting
    · exact .nil
  place := place

/-- A seat given up is handed on (R51, R55). -/
theorem State.SeatLaw.handOn (law : s.SeatLaw) {before : Lane}
    (freed : before.standing = .holding → ∀ service, before.tuned = some service →
      ∀ r ∈ s.rentals, r.service = service → r.seats.length < r.allowance) :
    (s.handOn before).SeatLaw ∧ ∀ n, (s.handOn before).Seated n ∨ (s.handOn before).lane n = s.lane n := by
  unfold State.handOn
  split
  next service holding tuned => exact law.handOver (law.offered (freed holding service tuned))
  · exact ⟨law, fun _ => .inr rfl⟩

/-- An outcome taken keeps the law of the seats (R51, R55). -/
theorem Reseated.admitAs {v : Verdict} (suits : v.Suits s n) :
    Reseated s (s.admitAs n v) ∧ (s.SeatLaw → (s.admitAs n v).Seated n) := by
  have settled := Reseated.settle suits
  unfold State.admitAs
  split
  next gives =>
    have leaves : ∀ r, v.reseat n r = r.without n := by
      intro r
      cases v with
      | off | blank | openFree | previewStart => rfl
      | seatKeep | seatGrant | waitJoin | waitKeep | previewKeep => cases gives
    have handed (law : s.SeatLaw) := State.SeatLaw.handOn (before := s.lane n) (law.settle suits).1
      (fun holding service tuned => by
        obtain ⟨r, held, own⟩ := (law.placed n).rented (by simp [holding])
        have places := law.freed held holding own (s.rentals_settle n v) leaves
        exact fun x among same => places x among (same.trans (Option.some.inj (tuned.symm.trans own))))
    refine ⟨⟨settled.view.trans (.handOn ..), fun law => (handed law).1, fun law m => ?_⟩, fun law => ?_⟩
    · obtain now | same := (handed law).2 m
      · exact .inl now
      · obtain first | still := settled.each law m
        · exact .inl (first.viewing (.handOn ..) same)
        · exact .inr (same.trans still)
    · obtain now | same := (handed law).2 n
      · exact now
      · exact (law.settle suits).2.viewing (.handOn ..) same
  · exact ⟨settled, fun law => (law.settle suits).2⟩

theorem Admits.reseated {order : List Screen} (h : Admits order s t) :
    Reseated s t ∧ (s.SeatLaw → ∀ n ∈ order, t.Seated n) := by
  induction h with
  | nil s => exact ⟨.refl s, by simp⟩
  | cons suits _ ih =>
    obtain ⟨first, own⟩ := Reseated.admitAs suits
    obtain ⟨later, seated⟩ := ih
    refine ⟨first.trans later, fun law m admitted => ?_⟩
    obtain rfl | behind := List.mem_cons.mp admitted
    · exact later.seated (first.law law) (own law)
    · exact seated (first.law law) m behind

/-! ### A release -/

/-- The state after a lane has left its rental, before the seat is handed on (R55). -/
def State.leave (s : State) (n : Screen) : State :=
  (s.mapTunedRental n (·.without n)).setLane n { s.lane n with standing := .none }

theorem State.release_eq (s : State) (n : Screen) : s.release n = (s.leave n).handOn (s.lane n) := rfl

theorem State.lane_leave_self (s : State) (n : Screen) : (s.leave n).lane n = { s.lane n with standing := .none } :=
  State.lane_setLane_self ..

theorem State.lane_leave_ne (s : State) (h : m ≠ n) : (s.leave n).lane m = s.lane m := by
  rw [State.leave, State.lane_setLane_ne _ h, State.lane_mapTunedRental]

theorem State.SeatLaw.leave (law : s.SeatLaw) (n : Screen) : (s.leave n).SeatLaw := by
  have standing : ((s.leave n).lane n).standing = .none := by rw [s.lane_leave_self]
  refine law.reseat (n := n) (f := (·.without n))
    ⟨fun m other => s.lane_leave_ne other, by rw [s.lane_leave_self], ?_⟩ (fun r held own => ?_) (fun stands => absurd standing stands)
  · exact s.rentals_mapTunedRental n _
  · rw [standing]
    exact .without (law.tidy r held)

/-- A release keeps the law of the seats; the lane stands in no list, and the others are admitted or as they were (R55). -/
theorem State.SeatLaw.release (law : s.SeatLaw) (n : Screen) :
    (s.release n).SeatLaw ∧ (s.release n).lane n = { s.lane n with standing := .none } ∧
      ∀ m ≠ n, (s.release n).Seated m ∨ (s.release n).lane m = s.lane m := by
  have left := law.leave n
  have own : ((s.leave n).lane n).standing = .none := by rw [s.lane_leave_self]
  have handed := left.handOn (before := s.lane n) (fun holding service tuned => by
    obtain ⟨r, held, same⟩ := (law.placed n).rented (by simp [holding])
    have places := law.freed held holding same (t := s.leave n) (s.rentals_mapTunedRental n _) fun _ => rfl
    exact fun x among service => places x among (service.trans (Option.some.inj (tuned.symm.trans same))))
  rw [← s.release_eq] at handed
  obtain ⟨law', each⟩ := handed
  refine ⟨law', ?_, fun m other => (each m).imp_right (·.trans (s.lane_leave_ne other))⟩
  rw [← s.lane_leave_self, s.release_eq]
  unfold State.handOn
  split
  · refine State.lane_handOver_ne fun waits => ?_
    obtain ⟨r, held, -, among⟩ := State.mem_waitingOf waits
    have waiting := (((left.placed n).waiting r held).mp among).1
    cases own.symm.trans waiting
  · rfl

end Sys2Proof.Machine
end

section
/-! SUPPORT. The law of the seats under the reviews (R42, R44, R49, R119, R120, R122). -/

namespace Sys2Proof.Machine

variable {s t u : State} {n m : Screen}

/-- The kept law of the seats, in the form that reviews keep. -/
structure State.ViewingLaw (s : State) : Prop where
  law : s.SeatLaw
  seated : ∀ n, s.Seated n

theorem State.viewingOk_iff_law : s.ViewingOk ↔ s.ViewingLaw :=
  State.viewingOk_iff.trans ⟨fun ⟨law, seated⟩ => ⟨law, seated⟩, fun ⟨law, seated⟩ => ⟨law, seated⟩⟩

/-! ### The end of a rental -/

theorem State.lane_clearStandings (s : State) (lanes : List Screen) (n : Screen) :
    (s.clearStandings lanes).lane n = if n ∈ lanes then { s.lane n with standing := .none } else s.lane n := by
  induction lanes generalizing s with
  | nil => rfl
  | cons w rest ih =>
    rw [State.clearStandings, List.foldl_cons]
    refine (ih _).trans ?_
    by_cases same : n = w
    · subst same
      simp
    · rw [State.lane_setLane_ne s same]
      simp [same]

/-- The state in which a rental that ends has left the list and its lanes their standings, before they are admitted (R122). -/
def State.unrent (s : State) (r : Rental) : State :=
  ({ s with rentals := s.rentals.filter (fun x => x.index ≠ r.index) } : State).clearStandings (r.seats ++ r.waiting)

theorem State.endRental_eq {index : Fin 8} {r : Rental} (held : s.rentalAt index = some r) :
    s.endRental index = ((s.unrent r).admitTuned r.service screens).raiseRentals := by
  obtain rfl := Moves.index_of_rentalAt held
  simp only [State.endRental, held, State.unrent]

theorem State.rentals_unrent (s : State) (r : Rental) :
    (s.unrent r).rentals = s.rentals.filter (fun x => x.index ≠ r.index) := State.rentals_clearStandings ..

theorem State.lane_unrent (s : State) (r : Rental) (n : Screen) : (s.unrent r).lane n =
    if n ∈ r.seats ++ r.waiting then { s.lane n with standing := .none } else s.lane n := State.lane_clearStandings ..

/-- A rental off the list leaves the law of the seats, and the lanes that did not hold or wait for it as they were (R122). -/
theorem State.SeatLaw.unrent (law : s.SeatLaw) {r : Rental} (held : r ∈ s.rentals) :
    (s.unrent r).SeatLaw ∧ ∀ n, (s.lane n).tuned ≠ some r.service → (s.unrent r).lane n = s.lane n := by
  have among {x : Rental} : x ∈ (s.unrent r).rentals ↔ x ∈ s.rentals ∧ x.index ≠ r.index := by
    simp [s.rentals_unrent]
  have member (n : Screen) : n ∈ r.seats ++ r.waiting → (s.lane n).tuned = some r.service := by
    intro viewer
    obtain seat | waits := List.mem_append.mp viewer
    · exact (((law.placed n).seats r held).mp seat).2
    · exact (((law.placed n).waiting r held).mp waits).2
  have tuned (n : Screen) : ((s.unrent r).lane n).tuned = (s.lane n).tuned := by
    rw [s.lane_unrent]
    split <;> rfl
  refine ⟨⟨?_, ?_, fun x left => law.tidy x (among.mp left).1, fun n => ?_⟩, fun n other => ?_⟩
  · rw [s.rentals_unrent]
    exact (List.filter_sublist.map _).nodup law.services
  · rw [s.rentals_unrent]
    exact (List.filter_sublist.map _).nodup law.indices
  · have placed := law.placed n
    by_cases viewer : n ∈ r.seats ++ r.waiting
    · have standing : ((s.unrent r).lane n).standing = .none := by rw [s.lane_unrent, if_pos viewer]
      have apart : ∀ x ∈ (s.unrent r).rentals, (s.lane n).tuned ≠ some x.service := by
        intro x left same
        have own := law.unique held (among.mp left).1 (Option.some.inj ((member n viewer).symm.trans same))
        exact (among.mp left).2 (own ▸ rfl)
      refine ⟨fun x left => ?_, fun x left => ?_, fun stands => absurd standing stands⟩
      · rw [placed.seats x (among.mp left).1, standing]
        simp [apart x left]
      · rw [placed.waiting x (among.mp left).1, standing]
        simp [apart x left]
    · have same : (s.unrent r).lane n = s.lane n := by rw [s.lane_unrent, if_neg viewer]
      refine ⟨?_, ?_, ?_⟩ <;> rw [same]
      · exact fun x left => placed.seats x (among.mp left).1
      · exact fun x left => placed.waiting x (among.mp left).1
      · intro stands
        obtain ⟨x, was, own⟩ := placed.rented stands
        refine ⟨x, among.mpr ⟨was, fun index => viewer ?_⟩, own⟩
        obtain rfl := List.inj_on_of_nodup_map law.indices was held index
        rw [List.mem_append, placed.seats x was, placed.waiting x was]
        cases standing : (s.lane n).standing with
        | none => exact absurd standing stands
        | holding => exact .inl ⟨rfl, own⟩
        | waiting => exact .inr ⟨rfl, own⟩
  · rw [s.lane_unrent, if_neg fun viewer => other (member n viewer)]

/-- The lanes tuned to a service are the ones that its admission names. -/
theorem mem_tunedScreens {service : Nat} :
    n ∈ screens.filter (fun n => (s.lane n).tuned = some service) ↔ (s.lane n).tuned = some service := by
  rw [List.mem_filter, decide_eq_true_eq]
  exact and_iff_right (mem_screens n)

theorem State.ViewingLaw.apart (ok : s.ViewingLaw) (h : Apart s t) : t.ViewingLaw :=
  ⟨ok.law.congr (fun n => by simp [h.lane n]) h.rentals,
    fun n => (ok.seated n).congr (by simp [h.lane n]) h.active⟩

theorem State.ViewingLaw.endRental (ok : s.ViewingLaw) (index : Fin 8) : (s.endRental index).ViewingLaw := by
  cases found : s.rentalAt index with
  | none => rwa [s.endRental_none index found]
  | some r =>
    obtain ⟨law, same⟩ := ok.law.unrent (List.mem_of_find?_eq_some found)
    have admits := Admits.admitTuned r.service screens (s.unrent r)
    obtain ⟨reseated, seated⟩ := admits.reseated
    have active : (s.unrent r).lineup.active = s.lineup.active := (Viewing.clearStandings _ _).active
    rw [State.endRental_eq found]
    refine State.ViewingLaw.apart ⟨reseated.law law, fun n => ?_⟩ (.raise ..)
    by_cases own : ((s.unrent r).lane n).tuned = some r.service
    · exact seated law n (mem_tunedScreens.mpr own)
    · have tuned : ((s.unrent r).lane n).tuned = (s.lane n).tuned := by
        rw [s.lane_unrent]
        split <;> rfl
      have still := same n (tuned ▸ own)
      exact reseated.seated law ((ok.seated n).congr (by simp [still]) active)

/-! ### The other reviews -/

/-- Rentals changed in their places with their seats kept. -/
theorem State.ViewingLaw.rentals (ok : s.ViewingLaw) {f : Rental → Rental} (h : ∀ r, Rental.SeatsStand r (f r)) :
    State.ViewingLaw { s with rentals := s.rentals.map f } := by
  have stand : ∀ r, (f r).index = r.index ∧ (f r).service = r.service ∧ (f r).allowance = r.allowance ∧
      (f r).seats = r.seats ∧ (f r).waiting = r.waiting := fun r => by
    simpa only [Prod.mk.injEq] using h r
  obtain ⟨law, seated⟩ := ok
  refine ⟨⟨?_, ?_, fun x held => ?_, fun n => ⟨fun x held => ?_, fun x held => ?_, fun stands => ?_⟩⟩,
    fun n => (seated n).congr ⟨rfl, rfl, rfl⟩ rfl⟩
  · rw [List.map_map, show (fun r : Rental => r.service) ∘ f = (·.service) from funext fun r => (stand r).2.1]
    exact law.services
  · rw [List.map_map, show (fun r : Rental => r.index) ∘ f = (·.index) from funext fun r => (stand r).1]
    exact law.indices
  · obtain ⟨r, was, rfl⟩ := List.mem_map.mp held
    obtain ⟨-, -, allowance, seats, waiting⟩ := stand r
    obtain ⟨room, once, order⟩ := law.tidy r was
    exact ⟨by rwa [seats, allowance], seats ▸ once, waiting ▸ order⟩
  · obtain ⟨r, was, rfl⟩ := List.mem_map.mp held
    obtain ⟨-, service, -, seats, -⟩ := stand r
    rw [seats, service]
    exact (law.placed n).seats r was
  · obtain ⟨r, was, rfl⟩ := List.mem_map.mp held
    obtain ⟨-, service, -, -, waiting⟩ := stand r
    rw [waiting, service]
    exact (law.placed n).waiting r was
  · obtain ⟨r, was, own⟩ := (law.placed n).rented stands
    exact ⟨f r, List.mem_map_of_mem was, own.trans (congrArg some (stand r).2.1.symm)⟩

/-- A new rental, which no lane holds or waits for (R115). -/
theorem State.SeatLaw.book (law : s.SeatLaw) {r : Rental} (empty : r.seats = [] ∧ r.waiting = [])
    (service : ∀ x ∈ s.rentals, x.service ≠ r.service) (index : ∀ x ∈ s.rentals, x.index ≠ r.index) :
    State.SeatLaw { s with rentals := s.rentals ++ [r] } := by
  obtain ⟨noSeats, noWaiting⟩ := empty
  have untaken : ∀ n, (s.lane n).standing ≠ .none → (s.lane n).tuned ≠ some r.service := by
    intro n stands own
    obtain ⟨x, held, same⟩ := (law.placed n).rented stands
    exact service x held (Option.some.inj (same.symm.trans own))
  refine ⟨?_, ?_, fun x held => ?_, fun n => ⟨fun x held => ?_, fun x held => ?_, fun stands => ?_⟩⟩
  · rw [List.map_append]
    exact law.services.append (List.nodup_singleton _) (by simpa using service)
  · rw [List.map_append]
    exact law.indices.append (List.nodup_singleton _) (by simpa using index)
  · obtain was | new := List.mem_append.mp held
    · exact law.tidy x was
    · rw [List.mem_singleton.mp new]
      exact ⟨by simp [noSeats], by simp [noSeats], by simp [noWaiting]⟩
  · obtain was | new := List.mem_append.mp held
    · exact (law.placed n).seats x was
    · rw [List.mem_singleton.mp new, noSeats]
      exact iff_of_false (by simp) fun ⟨holding, own⟩ => untaken n (by simp [show (s.lane n).standing = .holding from holding]) own
  · obtain was | new := List.mem_append.mp held
    · exact (law.placed n).waiting x was
    · rw [List.mem_singleton.mp new, noWaiting]
      exact iff_of_false (by simp) fun ⟨waits, own⟩ => untaken n (by simp [show (s.lane n).standing = .waiting from waits]) own
  · obtain ⟨x, was, own⟩ := (law.placed n).rented stands
    exact ⟨x, List.mem_append_left _ was, own⟩

theorem Prepared.seatLaw {order : List Screen} (h : Prepared order s u) (law : s.SeatLaw) : u.SeatLaw :=
  law.congr (fun n => by
    have lane := h.lane n
    simp only [Prod.mk.injEq] at lane
    obtain ⟨tuned, -, -, standing⟩ := lane
    exact ⟨tuned, standing⟩) h.rentals

theorem State.ViewingLaw.readmit {order : List Screen} (ok : s.ViewingLaw) (prepared : Prepared order s u)
    (admitted : Admits order u t) : t.ViewingLaw := by
  have law := prepared.seatLaw ok.law
  obtain ⟨reseated, seated⟩ := admitted.reseated
  refine ⟨reseated.law law, fun n => ?_⟩
  by_cases named : n ∈ order
  · exact seated law n named
  · obtain ⟨lane, -⟩ := prepared.stands n named
    have active := prepared.active.resolve_right fun all => named (all n)
    exact reseated.seated law ((ok.seated n).congr (by simp [lane]) active)

/-- A lane that stands in no list changes what it is tuned to (R45, R46). -/
theorem State.SeatLaw.retune (law : s.SeatLaw) (free : (s.lane n).standing = .none) (rentals : t.rentals = s.rentals)
    (others : ∀ m ≠ n, t.lane m = s.lane m) (still : (t.lane n).standing = .none) : t.SeatLaw := by
  refine ⟨rentals ▸ law.services, rentals ▸ law.indices, rentals ▸ law.tidy, fun m => ?_⟩
  have placed := law.placed m
  by_cases same : m = n
  · subst same
    refine ⟨fun r held => ?_, fun r held => ?_, fun stands => absurd still stands⟩
    · rw [placed.seats r (rentals ▸ held), free, still]
      simp
    · rw [placed.waiting r (rentals ▸ held), free, still]
      simp
  · refine ⟨?_, ?_, ?_⟩ <;> rw [rentals, others m same]
    · exact placed.seats
    · exact placed.waiting
    · exact placed.rented

theorem State.rentals_setKeyMiss (s : State) (n : Screen) (miss : Bool) : (s.setKeyMiss n miss).rentals = s.rentals := by
  unfold State.setKeyMiss
  split <;> rfl

theorem State.lineup_setKeyMiss (s : State) (n : Screen) (miss : Bool) : (s.setKeyMiss n miss).lineup = s.lineup := by
  unfold State.setKeyMiss
  split <;> rfl

theorem State.lane_tuned_ne (s : State) (service : Nat) (h : m ≠ n) : (s.tuned n service).lane m = (s.release n).lane m := by
  rw [State.tuned, State.lane_setKeyMiss_ne _ h, State.lane_retune_ne _ _ h]
  rfl

theorem State.SeatLaw.tuned (law : s.SeatLaw) (n : Screen) (service : Nat) : (s.tuned n service).SeatLaw := by
  obtain ⟨law', lane, -⟩ := law.release n
  refine law'.retune (n := n) (by rw [lane]) ?_ (fun m other => s.lane_tuned_ne service other) ?_
  · rw [State.tuned, State.rentals_setKeyMiss]
    rfl
  · rw [State.lane_tuned, lane]

theorem State.ViewingLaw.tune (ok : s.ViewingLaw) (n : Screen) (service : Nat) : (s.tuneTo n service).ViewingLaw := by
  obtain ⟨-, -, others⟩ := ok.law.release n
  have law := ok.law.tuned n service
  obtain ⟨reseated, seated⟩ := (Admits.admitLane (s.tuned n service) n).reseated
  rw [s.tuneTo_eq]
  refine ⟨reseated.law law, fun m => ?_⟩
  by_cases same : m = n
  · exact seated law m (by simp [same])
  · have released : (s.release n).Seated m := by
      obtain now | still := others m same
      · exact now
      · exact (ok.seated m).viewing (.release s n) still
    have active : (s.tuned n service).lineup.active = (s.release n).lineup.active := by
      rw [State.tuned, State.lineup_setKeyMiss]
      rfl
    exact reseated.seated law (released.congr (by simp [s.lane_tuned_ne service same]) active)

theorem State.untuneLane_eq (s : State) (n : Screen) : ∃ l : MediaLink, s.untuneLane n =
    { (((s.release n).setUnlock n none).setLane n { Lane.atStart with shutdown := (s.lane n).shutdown }) with link := l } := by
  have kept : ((s.release n).lane n).shutdown = (s.lane n).shutdown :=
    congrArg (·.2.2.2) ((Viewing.release s n).settings n)
  unfold State.untuneLane
  rw [← kept]
  dsimp only
  split
  · exact ⟨(s.release n).link, rfl⟩
  · exact ⟨_, rfl⟩

theorem State.ViewingLaw.untune (ok : s.ViewingLaw) (n : Screen) : (s.untuneLane n).ViewingLaw := by
  obtain ⟨law, lane, others⟩ := ok.law.release n
  obtain ⟨l, eq⟩ := s.untuneLane_eq n
  have own : (s.untuneLane n).lane n = { Lane.atStart with shutdown := (s.lane n).shutdown } := s.lane_untuneLane n
  have ne : ∀ m ≠ n, (s.untuneLane n).lane m = (s.release n).lane m := fun m other => by
    rw [eq]
    exact State.lane_setLane_ne _ other _
  refine ⟨law.retune (n := n) (by rw [lane]) (by rw [eq]; rfl) ne (by rw [own]; rfl), fun m => ?_⟩
  by_cases same : m = n
  · subst same
    refine ⟨?_, ?_, ?_⟩ <;> rw [own] <;> simp [Lane.atStart]
  · have released : (s.release n).Seated m := by
      obtain now | still := others m same
      · exact now
      · exact (ok.seated m).viewing (.release s n) still
    refine released.congr (by simp [ne m same]) ?_
    rw [eq]
    rfl

theorem Review.viewingLaw (h : Review s t) (ok : s.ViewingLaw) : t.ViewingLaw := by
  cases h with
  | apart h => exact ok.apart h
  | rentals h => exact ok.rentals h
  | endRental index => exact ok.endRental index
  | readmit prepared admitted => exact ok.readmit prepared admitted
  | tune n => exact ok.tune n _
  | untune n => exact ok.untune n
  | book empty service index =>
    exact ⟨ok.law.book empty service index, fun n => (ok.seated n).congr ⟨rfl, rfl, rfl⟩ rfl⟩
  | @keyMiss n miss shows =>
    have lane : ∀ m, ((s.setLane n { s.lane n with keyMiss := miss }).lane m).tuned = (s.lane m).tuned ∧
        ((s.setLane n { s.lane n with keyMiss := miss }).lane m).standing = (s.lane m).standing ∧
        ((s.setLane n { s.lane n with keyMiss := miss }).lane m).state = (s.lane m).state := by
      intro m
      by_cases same : m = n
      · simp [same]
      · simp [State.lane_setLane_ne s same]
    exact ⟨ok.law.congr (fun m => ⟨(lane m).1, (lane m).2.1⟩) rfl, fun m => (ok.seated m).congr (lane m) rfl⟩

/-- A start leaves no seat and no tuned lane (R64, R130). -/
theorem State.ViewingLaw.warmBegin (ok : s.ViewingLaw) : s.warmBegin.ViewingLaw := by
  have viewer : ∀ x ∈ s.warmBegin.rentals, x.seats = [] ∧ x.waiting = [] := s.unwatched_volatileStart.rentals
  have sold : s.warmBegin.rentals.map (fun r => (r.service, r.index)) = s.rentals.map (fun r => (r.service, r.index)) := by
    simp [State.warmBegin, State.volatileStart, Function.comp_def]
  have services : s.warmBegin.rentals.map (·.service) = s.rentals.map (·.service) := by
    simpa [Function.comp_def] using congrArg (List.map Prod.fst) sold
  have indices : s.warmBegin.rentals.map (·.index) = s.rentals.map (·.index) := by
    simpa [Function.comp_def] using congrArg (List.map Prod.snd) sold
  refine ⟨⟨services ▸ ok.law.services, indices ▸ ok.law.indices, fun x held => ?_, fun n => ?_⟩, fun n => ?_⟩
  · obtain ⟨noSeats, noWaiting⟩ := viewer x held
    exact ⟨by simp [noSeats], by simp [noSeats], by simp [noWaiting]⟩
  · have lane := s.lane_warmBegin n
    refine ⟨fun x held => ?_, fun x held => ?_, fun stands => ?_⟩
    · simp [(viewer x held).1, lane, Lane.atStart]
    · simp [(viewer x held).2, lane, Lane.atStart]
    · simp [lane, Lane.atStart] at stands
  · refine ⟨?_, ?_, ?_⟩ <;> rw [s.lane_warmBegin] <;> simp [Lane.atStart]

theorem blockLaw_viewing : BlockLaw State.ViewingOk where
  blind _ _ _ _ _ ok := ok
  cold := ⟨by decide, fun n opened => by
    rw [show State.reset.lane n = Lane.atStart from get_replicate n _] at opened
    cases opened⟩
  warm _ ok := State.viewingOk_iff_law.mpr (State.viewingOk_iff_law.mp ok).warmBegin
  counts _ _ _ ok := ok
  move h ok := State.viewingOk_iff_law.mpr (h.reviews.keeps Review.viewingLaw (State.viewingOk_iff_law.mp ok))

end Sys2Proof.Machine
end

section
/-! PROOFS. Seats, standings and allowances (R42, R44, R49, R119, R120). -/

namespace Sys2Proof.Machine

/-- Settles O10, review by review. -/
theorem everyStepKeepsTheSeats : Obligations.EveryStepKeepsTheSeats := blockLaw_viewing.keptByStep

end Sys2Proof.Machine
end

section
/-! PROOFS. The state after reset, and that it meets every invariant (00_scope, Starts and resets). -/

namespace Sys2Proof.Machine

/-- Settles O3, block by block. -/
theorem resetIsAColdStart : Obligations.ResetIsAColdStart := by
  refine ⟨⟨rfl, rfl, rfl, rfl, rfl⟩, fun code => get_replicate code _, fun slot p => ?_, fun n => ⟨?_, ?_, ?_⟩,
    ⟨rfl, rfl, rfl, rfl⟩, rfl, rfl, rfl, rfl, rfl, ⟨rfl, rfl, rfl, rfl, fun i => get_replicate i _, rfl⟩, rfl, rfl⟩
  · have slot : State.reset.keys.get slot = ⟨.noKey, .noKey⟩ := get_replicate slot _
    rw [State.half, slot]
    cases p <;> rfl
  · exact get_replicate n _
  · exact get_replicate n _
  · exact get_replicate n _

/-- Settles O12: the block laws hold at reset. -/
theorem resetMeetsTheInvariants : Obligations.ResetMeetsTheInvariants :=
  ⟨blockLaw_clock.cold, by decide, blockLaw_lock.cold, blockLaw_lineup.cold, blockLaw_keys.cold, blockLaw_lanes.cold,
    blockLaw_lockLaw.cold, blockLaw_room.cold, blockLaw_vacancy.cold, by decide, blockLaw_billing.cold, blockLaw_viewing.cold,
    by decide, by decide, by decide⟩

end Sys2Proof.Machine
end

section
/-! PROOFS. The reply sent or abandoned (R163, R170, R172), and the part without its supply (R90, R108). -/

namespace Sys2Proof.Machine

variable {s t : State}

/-! ### Deafness -/

/-- A part that drives its reply takes no character (R163). -/
theorem State.not_listening_of_driving {r : PlReply} (driving : s.line.reply = .driving r) (powered : s.powered = true) :
    s.plde = true ∧ s.listening = false := by
  have asserted : s.plde = true := by
    unfold State.plde
    rw [driving]
    exact powered
  exact ⟨asserted, by simp [State.listening, asserted]⟩

/-- A part without its supply takes no character (R108). -/
theorem State.not_listening_of_unpowered (off : s.powered = false) : s.listening = false := by
  simp [State.listening, off]

section Deaf

variable (deaf : s.listening = false)
include deaf

theorem State.plCommand_of_deaf (kind : PlKind) (address : BitVec 10) (body : List Byte) (order : List ClockTask) :
    s.plCommand kind address body order = s := if_neg (by simp [deaf])

theorem State.plFrame_of_deaf (f : PlFrame) (order : List ClockTask) : s.plFrame f order = s := if_neg (by simp [deaf])

theorem State.plChar_of_deaf (c : Byte) : s.plChar c = s := if_neg (by simp [deaf])

theorem State.plChars_of_deaf (chars : List Byte) : s.plChars chars = s := by
  induction chars with
  | nil => rfl
  | cons c rest ih => rw [State.plChars, List.foldl_cons, State.plChar_of_deaf deaf]; exact ih

theorem State.plAbort_of_deaf : s.plAbort = s := if_neg (by simp [deaf])

end Deaf

/-! ### The reply -/

theorem State.listening_of_built {r : PlReply} (built : s.line.reply = .built r) (powered : s.powered = true) :
    s.listening = true := by
  simp [State.listening, State.plde, built, powered]

/-- A start bit before the reply is driven abandons it, and its character begins as any other in HUNTING (R165, R170). -/
theorem State.plChar_of_built {r : PlReply} (built : s.line.reply = .built r) (powered : s.powered = true)
    (hunting : s.line.rx = .hunting) (c : Byte) :
    s.plChar c = { s with line := { s.line with reply := .none, rx := if c = plLead then .assembling [] else .hunting } } := by
  have abandoned : s.abandonReply = { s with line := { s.line with reply := .none } } := by
    unfold State.abandonReply
    rw [built]
  unfold State.plChar
  rw [if_pos (State.listening_of_built built powered), hunting, abandoned]
  by_cases lead : c = plLead
  · simp only [plRxTake, if_pos lead]
    rfl
  · simp only [plRxTake, if_neg lead]
    rfl

/-- Settles O19. -/
theorem theReplyIsSentOrAbandoned : Obligations.TheReplyIsSentOrAbandoned := by
  intro s r kind address body char powered
  refine ⟨fun built => ⟨?_, fun hunting => ?_⟩, fun driving => ⟨?_, ?_, ?_⟩⟩
  · simp [exec, execPlReplySend, powered, built, Latched.clear]
  · exact congrArg _ (State.plChar_of_built built powered hunting char)
  · simp [exec, execPlReplyComplete, powered, driving]
  · exact (State.not_listening_of_driving driving powered).1
  · rw [exec_command, State.plCommand_of_deaf (State.not_listening_of_driving driving powered).2]

/-! ### Without the supply -/

/-- A part without its supply takes no command but a power-on and a room-clock second (R108; log 12). -/
theorem exec_of_unpowered (off : s.powered = false) {c : Instr} (notOn : ∀ good o, c ≠ .powerOn good o)
    (notSecond : ∀ o, c ≠ .roomClockSecond o) : exec c s = .next s := by
  have deaf := State.not_listening_of_unpowered off
  have ignored (f : State → State) : (.next (s.ifPowered f) : Host.Outcome State Fault Refusal) = .next s := by
    rw [State.ifPowered_of_unpowered off]
  cases c with
  | powerOn good order => exact absurd rfl (notOn good order)
  | roomClockSecond order => exact absurd rfl (notSecond order)
  | powerLoss =>
    show Host.Outcome.next { s with powered := false } = .next s
    rw [← off]
  | plBreak chars | plFramingError chars =>
    show Host.Outcome.next (s.plChars chars).plAbort = .next s
    rw [State.plChars_of_deaf deaf, State.plAbort_of_deaf deaf]
  | plBodyCountAbort chars | plBadCrcFrame chars => exact congrArg _ (State.plChars_of_deaf deaf chars)
  | frameNotForRoom | plUnknownKind => exact congrArg _ (State.plFrame_of_deaf deaf _ _)
  | replyAbandoned char => exact congrArg _ (State.plChar_of_deaf deaf char)
  | lineupBegin | lineupEntry | lineupCommit | priceSet | keyLoad | timeSet | roomReset | checkIn | checkOut | roomUpdate
  | statusPoll | collect | confirm | decline | waive | revoke | screenShutdown | screenRestore | pinClear =>
    exact congrArg _ (State.plCommand_of_deaf deaf ..)
  | _ => exact ignored _

/-- A room-clock second of a clock that does not count changes nothing (R90). -/
theorem State.roomSecond_of_not_counts (still : s.clock.counts = false) (order : List ClockTask) : s.roomSecond order = s :=
  if_neg (by simp [still])

/-- Settles O24. -/
theorem withoutSupplyOnlyTheClockCounts : Obligations.WithoutSupplyOnlyTheClockCounts := by
  refine ⟨fun s c order => ⟨rfl, fun off => ⟨exec_of_unpowered off, congrArg Host.Outcome.next ?_⟩⟩, fun s order still => ?_⟩
  · by_cases counts : s.clock.isSet = true ∧ s.clock.count < 4294967295
    · have count : s.clock.counts = true := by simpa [ClockUnit.counts] using counts
      rw [if_pos counts, State.roomSecond, if_pos count]
      dsimp only
      rw [if_neg (by simp [off])]
    · rw [if_neg counts]
      exact State.roomSecond_of_not_counts (by simpa [ClockUnit.counts] using counts) order
  · refine congrArg Host.Outcome.next (State.roomSecond_of_not_counts ?_ order)
    obtain unset | full := still
    · simp [ClockUnit.counts, unset]
    · simp [ClockUnit.counts, full]

end Sys2Proof.Machine
end

section
/-! SUPPORT. The frame check, bit by bit (R166), and the fields of bytes laid out one behind the other (11, opening). -/

namespace Sys2Proof.Machine

/-! ### The frame check -/

/-- The check shifts a byte up while it has not reached the top bit. -/
theorem crcBit_shiftLeft (b : Byte) {k : Nat} (room : k < 8) :
    crcBit (b.zeroExtend 16 <<< k) = b.zeroExtend 16 <<< (k + 1) := by
  have byte := b.isLt
  have low : (b.zeroExtend 16 <<< k).msb = false := by
    rw [BitVec.msb_eq_getLsbD_last, BitVec.getLsbD_shiftLeft]
    simp only [BitVec.truncate_eq_setWidth, BitVec.getLsbD_setWidth]
    rw [BitVec.getLsbD_of_ge b _ (by omega)]
    simp
  rw [crcBit, low, BitVec.shiftLeft_add]
  rfl

theorem crcBit_injective : Function.Injective crcBit := by
  intro x y same
  have shifted (a b : Crc) (msb : a.msb = b.msb) (h : a <<< 1 = b <<< 1) : a = b := by
    refine BitVec.eq_of_getLsbD_eq fun i hi => ?_
    by_cases top : i = 15
    · subst top
      simpa [BitVec.msb_eq_getLsbD_last] using msb
    · have bit := congrArg (fun v => v.getLsbD (i + 1)) h
      simpa [BitVec.getLsbD_shiftLeft, show i + 1 < 16 by omega, BitVec.getLsbD_eq_getElem, hi] using bit
  have lowest (a b : Crc) : (a <<< 1 ^^^ 0x1021#16) ≠ b <<< 1 := by
    intro h
    have bit := congrArg (fun v => v.getLsbD 0) h
    simp at bit
  unfold crcBit at same
  cases mx : x.msb <;> cases my : y.msb <;> simp only [mx, my, if_true, Bool.false_eq_true, if_false] at same
  · exact shifted x y (mx.trans my.symm) same
  · exact absurd same.symm (lowest y x)
  · exact absurd same (lowest x y)
  · exact shifted x y (mx.trans my.symm) ((BitVec.xor_left_inj _).mp same)

/-- Eight bits of the frame check. -/
def crcShift (crc : Crc) : Crc := crcBit (crcBit (crcBit (crcBit (crcBit (crcBit (crcBit (crcBit crc)))))))

theorem crcByte_eq (crc : Crc) (b : Byte) : crcByte crc b = crcShift (crc ^^^ b.zeroExtend 16 <<< 8) := rfl

theorem crcShift_injective : Function.Injective crcShift := fun x y same => by
  unfold crcShift at same
  exact crcBit_injective (crcBit_injective (crcBit_injective (crcBit_injective (crcBit_injective (crcBit_injective
    (crcBit_injective (crcBit_injective same)))))))

theorem crcShift_byte (b : Byte) : crcShift (b.zeroExtend 16) = b.zeroExtend 16 <<< 8 := by
  have first := crcBit_shiftLeft b (k := 0) (by decide)
  rw [BitVec.shiftLeft_zero] at first
  unfold crcShift
  rw [first, crcBit_shiftLeft b (by decide), crcBit_shiftLeft b (by decide), crcBit_shiftLeft b (by decide),
    crcBit_shiftLeft b (by decide), crcBit_shiftLeft b (by decide), crcBit_shiftLeft b (by decide),
    crcBit_shiftLeft b (by decide)]

theorem xor_eq_zero_iff {w : Nat} (x y : BitVec w) : x ^^^ y = 0 ↔ x = y := by
  constructor
  · intro h
    have undone := congrArg (· ^^^ y) h
    simpa [BitVec.xor_assoc] using undone
  · rintro rfl
    exact BitVec.xor_self

/-- Two bytes bring the check to 0 exactly when they are the check so far, its upper byte first. -/
theorem crcByte_crcByte_eq_zero (crc : Crc) (a b : Byte) :
    crcByte (crcByte crc a) b = 0 ↔ crc = a.zeroExtend 16 <<< 8 ^^^ b.zeroExtend 16 := by
  have zero : crcShift 0 = 0 := crcShift_byte 0
  have upper : crcByte (crcByte crc a) b = 0 ↔ crcByte crc a = b.zeroExtend 16 <<< 8 := by
    rw [crcByte_eq, ← xor_eq_zero_iff (crcByte crc a)]
    exact ⟨fun h => crcShift_injective (h.trans zero.symm), fun h => by rw [h, zero]⟩
  rw [upper, crcByte_eq, ← crcShift_byte b, crcShift_injective.eq_iff, ← xor_eq_zero_iff, BitVec.xor_assoc, xor_eq_zero_iff]

theorem toNat_two_bytes (a b : Byte) : (a.zeroExtend 16 <<< 8 ^^^ b.zeroExtend 16).toNat = a.toNat * 256 + b.toNat := by
  have high := a.isLt
  have low := b.isLt
  have apart := xor_mul_add_byte a.toNat 0 0 b
  have zero : (0 : Byte).toNat = 0 := rfl
  rw [Nat.xor_zero, Nat.zero_mul, Nat.zero_add, zero, Nat.add_zero, show (0 : Byte) ^^^ b = b from BitVec.zero_xor] at apart
  rw [BitVec.toNat_xor, BitVec.toNat_shiftLeft, BitVec.zeroExtend,
    BitVec.toNat_setWidth_of_le (by decide), BitVec.toNat_setWidth_of_le (by decide), Nat.shiftLeft_eq,
    Nat.mod_eq_of_lt (by omega), apart]

theorem beBytes_two_eq_iff (n : Nat) (fits : n < 65536) (a b : Byte) :
    [a, b] = beBytes 2 n ↔ n = a.toNat * 256 + b.toNat := by
  have high := a.isLt
  have low := b.isLt
  have bytes : beBytes 2 n = [BitVec.ofNat 8 (n / 256), BitVec.ofNat 8 n] := rfl
  rw [bytes, List.cons_eq_cons, List.cons_eq_cons]
  simp only [← BitVec.toNat_inj, BitVec.toNat_ofNat, and_true]
  omega

theorem crc16_append_two (bs : List Byte) (a b : Byte) : crc16 (bs ++ [a, b]) = 0 ↔ [a, b] = crcBytes bs := by
  rw [crcBytes, beBytes_two_eq_iff _ (crc16 bs).isLt, ← toNat_two_bytes, BitVec.toNat_inj, ← crcByte_crcByte_eq_zero, crc16,
    List.foldl_append]
  rfl

/-- Bytes followed by their check bring the check to 0 (R166). -/
theorem crc16_append_crcBytes (bs : List Byte) : crc16 (bs ++ crcBytes bs) = 0 := (crc16_append_two bs _ _).mpr rfl

/-- Settles O14. -/
theorem theFrameCheckFindsItsOwnBytes : Obligations.TheFrameCheckFindsItsOwnBytes :=
  ⟨by decide +kernel, crc16_append_two⟩

/-! ### Fields -/

/-- A field that ends within the first bytes is theirs. -/
theorem field_append (front back : List Byte) {offset len : Nat} (within : offset + len ≤ front.length) :
    field (front ++ back) offset len = field front offset len := by
  rw [field, field, List.drop_append_of_le_length (by omega), List.take_append_of_le_length (by simp; omega)]

/-- A number laid out behind some bytes is read back from there. -/
theorem field_beBytes {n len : Nat} (fits : n < 256 ^ len) (front back : List Byte) :
    field (front ++ (beBytes len n ++ back)) front.length len = n := by
  rw [field, List.drop_left, List.take_left' (length_beBytes len n), beNat_beBytes fits]

end Sys2Proof.Machine
end

section
/-! PROOFS. The two receivers, character by character: a whole frame from HUNTING (R165, R166, R183, R184), a frame discarded, and
a good frame that reaches no owner (R163 to R169). -/

namespace Sys2Proof.Machine

/-! ### A receiver on the way through one frame -/

/-- A receiver that every character of a frame but the last leaves in the frame gathers it without an event. -/
theorem rxRun_assembling {φ : Type} {take : Rx → Byte → Rx × RxEvent φ} {whole : List Byte}
    (gathers : ∀ now rest, now ++ rest = whole → rest ≠ [] → ∀ taken c, now = taken ++ [c] →
      take (.assembling taken) c = (.assembling now, .quiet)) :
    ∀ (chars taken rest : List Byte), taken ++ chars ++ rest = whole → rest ≠ [] →
      rxRun take (.assembling taken) chars = (.assembling (taken ++ chars), [])
  | [], taken, rest, _, _ => by simp [rxRun]
  | c :: chars, taken, rest, is, more => by
    have first := gathers (taken ++ [c]) (chars ++ rest) (by simpa using is) (by simp [more]) taken c rfl
    have others := rxRun_assembling gathers chars (taken ++ [c]) rest (by simpa using is) more
    simp only [rxRun, first, others]
    simp

/-! ### The frames of the property line -/

theorem length_crcBytes (bs : List Byte) : (crcBytes bs).length = 2 := length_beBytes 2 _

theorem length_plFrameContent (f : PlFrame) : (plFrameContent f).length = f.body.length + 3 := by
  simp [plFrameContent]
  omega

/-- The bytes of a command frame behind its lead byte. -/
def plFrameTail (f : PlFrame) : List Byte := plFrameContent f ++ crcBytes (plFrameContent f)

theorem length_plFrameTail (f : PlFrame) : (plFrameTail f).length = f.body.length + 5 := by
  simp [plFrameTail, length_plFrameContent, length_crcBytes]

theorem field_count_plFrameTail {f : PlFrame} (short : f.body.length ≤ 48) : field (plFrameTail f) 2 1 = f.body.length := by
  have count := field_beBytes (n := f.body.length) (len := 1) (by omega) (beBytes 2 (f.address.toNat * 64 + f.kind.toNat))
    (f.body ++ crcBytes (plFrameContent f))
  rw [length_beBytes] at count
  simpa [plFrameTail, plFrameContent] using count

theorem plFrameOf_plFrameTail {f : PlFrame} (short : f.body.length ≤ 48) : plFrameOf (plFrameTail f) = f := by
  have address := f.address.isLt
  have kind := f.kind.isLt
  have word : field (plFrameTail f) 0 2 = f.address.toNat * 64 + f.kind.toNat := by
    have read := field_beBytes (n := f.address.toNat * 64 + f.kind.toNat) (len := 2) (by omega) []
      (beBytes 1 f.body.length ++ f.body ++ crcBytes (plFrameContent f))
    simpa [plFrameTail, plFrameContent] using read
  have behind : (plFrameTail f).drop 3 = f.body ++ crcBytes (plFrameContent f) := by
    have split := List.drop_left (l₁ := beBytes 2 (f.address.toNat * 64 + f.kind.toNat) ++ beBytes 1 f.body.length)
      (l₂ := f.body ++ crcBytes (plFrameContent f))
    simpa [plFrameTail, plFrameContent] using split
  have addressBack : BitVec.ofNat 10 ((f.address.toNat * 64 + f.kind.toNat) / 64) = f.address := by
    rw [← BitVec.toNat_inj, BitVec.toNat_ofNat]
    omega
  have kindBack : BitVec.ofNat 6 (f.address.toNat * 64 + f.kind.toNat) = f.kind := by
    rw [← BitVec.toNat_inj, BitVec.toNat_ofNat]
    omega
  simp only [plFrameOf, word, addressBack, kindBack, field_count_plFrameTail short, behind, List.take_left]

/-- Every byte of a command frame behind its lead byte but the last leaves the receiver in the frame (R165). -/
theorem plRxTake_within {f : PlFrame} (short : f.body.length ≤ 48) (now rest : List Byte) (is : now ++ rest = plFrameTail f)
    (more : rest ≠ []) (taken : List Byte) (c : Byte) (last : now = taken ++ [c]) :
    plRxTake (.assembling taken) c = (.assembling now, .quiet) := by
  have fewer : now.length < f.body.length + 5 := by
    have all := congrArg List.length is
    have some := List.length_pos_of_ne_nil more
    rw [List.length_append, length_plFrameTail] at all
    omega
  simp only [plRxTake, ← last]
  by_cases head : now.length < 3
  · rw [if_pos head]
  · have count : field now 2 1 = f.body.length := by
      rw [← field_count_plFrameTail short, ← is, field_append now rest (by omega)]
    rw [if_neg head, count, if_neg (by simpa [plBodyLimit] using short), if_pos fewer]

/-- The last byte of a command frame gives the frame (R165, R166). -/
theorem plRxTake_last {f : PlFrame} (short : f.body.length ≤ 48) {taken : List Byte} {c : Byte}
    (is : taken ++ [c] = plFrameTail f) : plRxTake (.assembling taken) c = (.hunting, .good f) := by
  have length := length_plFrameTail f
  have check : crc16 (plFrameTail f) = 0 := crc16_append_crcBytes _
  simp only [plRxTake, is, length, field_count_plFrameTail short, check, plFrameOf_plFrameTail short]
  rw [if_neg (by omega), if_neg (by simpa [plBodyLimit] using short), if_neg (lt_irrefl _), if_pos trivial]

/-! ### What the part makes of the characters -/

variable {s : State}

/-- Without a reply built there is none to abandon (R170). -/
theorem State.abandonReply_of_not_built (none : ∀ r, s.line.reply ≠ .built r) : s.abandonReply = s := by
  unfold State.abandonReply
  split
  · next r built => exact absurd built (none r)
  · rfl

theorem State.abandonReply_not_built (r : PlReply) : s.abandonReply.line.reply ≠ .built r := by
  unfold State.abandonReply
  split
  · simp
  · next not => exact not r

theorem State.abandonReply_rx : s.abandonReply.line.rx = s.line.rx := by
  unfold State.abandonReply
  split <;> rfl

theorem State.listening_setPlRx (rx : Rx) : (s.setPlRx rx).listening = s.listening := rfl

theorem State.listening_abandonReply : s.abandonReply.listening = s.listening := by
  unfold State.abandonReply
  split
  · next r built => simp [State.listening, State.plde, built]
  · rfl

/-- Hearing a frame does what it does whatever stood in the receiver and whatever reply stood built (R165, R170). -/
theorem State.hearFrame_abandoned (rx : Rx) : (s.abandonReply.setPlRx rx).hearFrame = s.hearFrame := by
  unfold State.abandonReply
  split <;> rfl

theorem State.abandonReply_room : s.abandonReply.room = s.room := by
  unfold State.abandonReply
  split <;> rfl

/-- A good frame does what it does whatever stood in the receiver and whatever reply stood built (R165, R170). -/
theorem State.takeFrame_abandoned (rx : Rx) (f : PlFrame) (order : List ClockTask) :
    (s.abandonReply.setPlRx rx).takeFrame f order = s.takeFrame f order := by
  simp only [State.takeFrame, State.takeCommand, State.hearFrame_abandoned, State.setPlRx_room, State.abandonReply_room]

/-- A character that brings no good frame abandons a built reply and leaves its mark on the receiver (R165, R166, R170). -/
theorem State.plChar_of_no_frame (listening : s.listening = true) {c : Byte} {rx : Rx} {event : RxEvent PlFrame}
    (brings : plRxTake s.line.rx c = (rx, event)) (bad : ∀ f, event ≠ .good f) : s.plChar c = s.abandonReply.setPlRx rx := by
  unfold State.plChar
  rw [if_pos listening, brings]
  cases event with
  | good f => exact absurd rfl (bad f)
  | quiet | tooLong | badCrc => rfl

/-- A character that completes a good frame is that frame (R166). -/
theorem State.plChar_of_frame (listening : s.listening = true) {c : Byte} {rx : Rx} {f : PlFrame}
    (brings : plRxTake s.line.rx c = (rx, .good f)) : s.plChar c = s.takeFrame f [] := by
  unfold State.plChar
  rw [if_pos listening, brings]
  exact State.takeFrame_abandoned rx f []

/-- Characters that bring no good frame leave their mark on the receiver alone (R165, R166). -/
theorem State.plChars_of_no_frame (listening : s.listening = true) (none : ∀ r, s.line.reply ≠ .built r) {chars : List Byte}
    (bad : ∀ e ∈ (rxRun plRxTake s.line.rx chars).2, ∀ f, e ≠ .good f) :
    s.plChars chars = s.setPlRx (rxRun plRxTake s.line.rx chars).1 := by
  induction chars generalizing s with
  | nil => rfl
  | cons c rest ih =>
    rcases brings : plRxTake s.line.rx c with ⟨rx, event⟩
    have now : ∀ f, event ≠ .good f := by
      rintro f rfl
      exact bad (.good f) (by simp [rxRun, brings]) f rfl
    have later : ∀ e ∈ (rxRun plRxTake rx rest).2, ∀ f, e ≠ .good f := by
      intro e he
      refine bad e ?_
      simp only [rxRun, brings]
      cases event with
      | quiet => exact he
      | tooLong | badCrc | good f => exact List.mem_cons_of_mem _ he
    have rxAfter : (rxRun plRxTake s.line.rx (c :: rest)).1 = (rxRun plRxTake rx rest).1 := by
      simp only [rxRun, brings]
      cases event <;> rfl
    rw [rxAfter, State.plChars, List.foldl_cons, State.plChar_of_no_frame listening brings now,
      State.abandonReply_of_not_built none]
    exact ih (s := s.setPlRx rx) listening none later

/-- The characters of a command frame from HUNTING are its good frame (R165, R166). -/
theorem State.plChars_plFrameBytes {f : PlFrame} (short : f.body.length ≤ 48) (hunting : s.line.rx = .hunting)
    (listening : s.listening = true) : s.plChars (plFrameBytes f) = s.takeFrame f [] := by
  obtain ⟨front, c, split⟩ : ∃ front c, front ++ [c] = plFrameTail f := by
    obtain empty | ⟨front, c, split⟩ := List.eq_nil_or_concat' (plFrameTail f)
    · exact absurd (congrArg List.length empty) (by simp [length_plFrameTail])
    · exact ⟨front, c, split.symm⟩
  have bytes : plFrameBytes f = plLead :: (front ++ [c]) := by rw [split]; rfl
  have lead : s.plChar plLead = s.abandonReply.setPlRx (.assembling []) :=
    State.plChar_of_no_frame listening (event := .quiet) (by rw [hunting]; rfl) (by simp)
  have run : rxRun plRxTake (.assembling []) front = (.assembling front, []) :=
    rxRun_assembling (plRxTake_within short) front [] [c] split (List.cons_ne_nil c [])
  have gathered : (s.abandonReply.setPlRx (.assembling [])).plChars front = s.abandonReply.setPlRx (.assembling front) := by
    have all := State.plChars_of_no_frame (s := s.abandonReply.setPlRx (.assembling [])) (chars := front)
      (State.listening_abandonReply.trans listening) State.abandonReply_not_built
      (by show ∀ e ∈ (rxRun plRxTake (.assembling []) front).2, _; rw [run]; simp)
    exact all.trans (by show State.setPlRx _ (rxRun plRxTake (.assembling []) front).1 = _; rw [run]; rfl)
  have last : (s.abandonReply.setPlRx (.assembling front)).plChar c = s.takeFrame f [] := by
    exact (State.plChar_of_frame (s := s.abandonReply.setPlRx (.assembling front))
      (State.listening_abandonReply.trans listening) (plRxTake_last short split)).trans (State.takeFrame_abandoned _ f [])
  rw [bytes, State.plChars, List.foldl_cons, lead, List.foldl_append]
  exact (congrArg (fun u => State.plChar u c) gathered).trans last

/-- Settles O15. -/
theorem aCommandFrameIsItsCharacters : Obligations.ACommandFrameIsItsCharacters := by
  intro s kind address body short hunting
  rw [exec_command]
  refine congrArg _ ?_
  cases listening : s.listening with
  | false => rw [State.plCommand_of_deaf listening, State.plChars_of_deaf listening]
  | true =>
    rw [State.plChars_plFrameBytes short hunting listening, State.plCommand, if_pos listening, State.takeFrame, plKindOf_code]

/-- Settles O17. -/
theorem discardedFramesLeaveOnlyTheReceiver : Obligations.DiscardedFramesLeaveOnlyTheReceiver := by
  intro s chars listening silent bad
  have noReply : ∀ r, s.line.reply ≠ .built r := by simp [silent]
  have left := State.plChars_of_no_frame listening noReply (chars := chars) fun e he f is => by
    obtain long | failed := bad e he
    · exact absurd (long.symm.trans is) (by simp)
    · exact absurd (failed.symm.trans is) (by simp)
  have aborted : (s.plChars chars).plAbort = { s with line := { s.line with rx := .hunting } } := by
    have stillListens : (s.setPlRx (rxRun plRxTake s.line.rx chars).1).listening = true := listening
    rw [left, State.plAbort, if_pos stillListens]
    exact (congrArg (fun u => State.setPlRx u .hunting)
      (State.abandonReply_of_not_built (s := s.setPlRx (rxRun plRxTake s.line.rx chars).1) noReply)).trans rfl
  exact ⟨congrArg Host.Outcome.next aborted, congrArg Host.Outcome.next aborted, congrArg Host.Outcome.next left,
    congrArg Host.Outcome.next left⟩

/-! ### Good frames that reach no owner -/

theorem MediaLink.files_every {l : MediaLink} {p : NoticePair} (mode : l.modes.of p = .every) (fault : Bool) :
    l.files p fault = true := by
  rw [MediaLink.files, mode]

/-- A frame heard and dropped (R166, R179). -/
theorem State.hearFrame_onlyHeard (s : State) : OnlyHeard s s.hearFrame s.line.latched := by
  refine ⟨s.hearFrame_eq, s.hearFrame_onlyNotices, State.hearFrame_link_of_up, fun down every => ?_⟩
  have raised : s.hearFrame =
      ({ s with line := { s.line with rx := .hunting, reply := .none, silence := 0, up := true } } : State).raiseLine := by
    rw [State.hearFrame, down]
    rfl
  rw [raised]
  exact State.raise_shows (MediaLink.files_every (p := .line) every _)

/-- A frame heard, and flags latched besides (R169). -/
theorem OnlyHeard.latch {t : State} {latched : Latched} (heard : OnlyHeard s t latched) (f : Latched → Latched) :
    OnlyHeard s (t.latch f) (f latched) := by
  obtain ⟨frame, notices, up, down⟩ := heard
  have flags : t.line.latched = latched := by rw [frame]
  refine ⟨?_, notices, up, down⟩
  rw [State.latch, flags, frame]

theorem State.plFrame_not_for_room (listening : s.listening = true) {address : BitVec 10} (notAll : address.toNat ≠ 1023)
    (other : address.toNat = 0 ∨ address.toNat ≠ s.room.address) (kind : BitVec 6) (body : List Byte) :
    s.plFrame ⟨address, kind, body⟩ [] = s.hearFrame := by
  have unmatched : matchAddress address.toNat s.room.address = .notForRoom := by
    unfold matchAddress
    rw [if_neg notAll]
    obtain zero | ne := other
    · rw [if_pos zero]
    · rw [if_neg ne, ite_self]
  rw [State.plFrame, if_pos listening, State.takeFrame]
  split
  · rfl
  · rw [State.takeCommand, unmatched]

theorem State.plFrame_of_unknown (listening : s.listening = true) {kind : BitVec 6} (unknown : ∀ k : PlKind, k.code ≠ kind)
    (address : BitVec 10) (body : List Byte) : s.plFrame ⟨address, kind, body⟩ [] = s.hearFrame := by
  rw [State.plFrame, if_pos listening, State.takeFrame, plKindOf_none unknown]

/-- Settles O18. -/
theorem unfitFramesReachNoOwner : Obligations.UnfitFramesReachNoOwner := by
  refine ⟨fun s address kind body listening => ⟨fun notAll other => ?_, fun unknown => ?_⟩,
    fun s kind address body => ⟨fun here wrong => ?_, fun all unfit => ?_⟩⟩
  · exact ⟨_, congrArg Host.Outcome.next (State.plFrame_not_for_room listening notAll other kind body),
      s.hearFrame_onlyHeard⟩
  · exact ⟨_, congrArg Host.Outcome.next (State.plFrame_of_unknown listening unknown address body), s.hearFrame_onlyHeard⟩
  · refine ⟨_, exec_command kind address body s, ?_⟩
    rw [State.plCommand_addressed here, State.takeAddressed, if_neg wrong]
    exact s.hearFrame_onlyHeard.latch _
  · have refused : ¬(kind.mayBroadcast = true ∧ body.length = kind.bodyLength) := by
      rintro ⟨may, fits⟩
      obtain mayNot | wrong := unfit
      · exact absurd (may.symm.trans mayNot) (by decide)
      · exact wrong fits
    refine ⟨_, exec_command kind address body s, ?_⟩
    rw [State.plCommand_broadcast all, State.takeBroadcast, if_neg refused]
    exact (s.hearFrame_onlyHeard.latch _).latch _

/-! ### The frames of the media link -/

theorem length_mlFrameContent (f : MlFrame) : (mlFrameContent f).length = f.body.length + 3 := by
  simp [mlFrameContent]
  omega

/-- The bytes of a request frame behind its sync byte. -/
def mlFrameTail (f : MlFrame) : List Byte := mlFrameContent f ++ crcBytes (mlFrameContent f)

theorem length_mlFrameTail (f : MlFrame) : (mlFrameTail f).length = f.body.length + 5 := by
  simp [mlFrameTail, length_mlFrameContent, length_crcBytes]

theorem mlFrameTail_eq {f : MlFrame} :
    mlFrameTail f = beBytes 1 f.body.length ++ (f.kind :: f.tag :: (f.body ++ crcBytes (mlFrameContent f))) := by
  simp [mlFrameTail, mlFrameContent]

theorem field_length_mlFrameTail {f : MlFrame} (short : f.body.length ≤ 120) : field (mlFrameTail f) 0 1 = f.body.length := by
  rw [mlFrameTail_eq]
  exact field_beBytes (len := 1) (by omega) [] _

theorem mlFrameOf_mlFrameTail {f : MlFrame} (short : f.body.length ≤ 120) : mlFrameOf (mlFrameTail f) = f := by
  have one (b : Byte) : BitVec.ofNat 8 (beNat [b]) = b := by
    rw [← BitVec.toNat_inj, BitVec.toNat_ofNat]
    simpa [beNat] using b.isLt
  have kind : field (mlFrameTail f) 1 1 = beNat [f.kind] := by rw [mlFrameTail_eq]; rfl
  have tag : field (mlFrameTail f) 2 1 = beNat [f.tag] := by rw [mlFrameTail_eq]; rfl
  have behind : (mlFrameTail f).drop 3 = f.body ++ crcBytes (mlFrameContent f) := by rw [mlFrameTail_eq]; rfl
  rw [mlFrameOf, field_length_mlFrameTail short, kind, tag, one, one, behind, List.take_left]

/-- Every byte of a request frame behind its sync byte but the last leaves the receiver in the frame (R183). -/
theorem mlRxTake_within {f : MlFrame} (short : f.body.length ≤ 120) (now rest : List Byte) (is : now ++ rest = mlFrameTail f)
    (more : rest ≠ []) (taken : List Byte) (c : Byte) (last : now = taken ++ [c]) :
    mlRxTake (.assembling taken) c = (.assembling now, .quiet) := by
  have fewer : now.length < f.body.length + 5 := by
    have all := congrArg List.length is
    have some := List.length_pos_of_ne_nil more
    rw [List.length_append, length_mlFrameTail] at all
    omega
  have count : field now 0 1 = f.body.length := by
    rw [← field_length_mlFrameTail short, ← is, field_append now rest (by simp [last])]
  simp only [mlRxTake, ← last]
  rw [count, if_neg (by simpa [mlBodyLimit] using short), if_pos fewer]

/-- The last byte of a request frame gives the frame (R183, R184). -/
theorem mlRxTake_last {f : MlFrame} (short : f.body.length ≤ 120) {taken : List Byte} {c : Byte}
    (is : taken ++ [c] = mlFrameTail f) : mlRxTake (.assembling taken) c = (.hunting, .good f) := by
  have length := length_mlFrameTail f
  have check : crc16 (mlFrameTail f) = 0 := crc16_append_crcBytes _
  simp only [mlRxTake, is, length, field_length_mlFrameTail short, check, mlFrameOf_mlFrameTail short]
  rw [if_neg (by simpa [mlBodyLimit] using short), if_neg (lt_irrefl _), if_pos trivial]

/-- Characters that bring no event leave their mark on the receiver alone (R183). -/
theorem State.mlChars_of_quiet {chars : List Byte} (quiet : (rxRun mlRxTake s.link.rx chars).2 = []) :
    s.mlChars chars = s.setMlRx (rxRun mlRxTake s.link.rx chars).1 := by
  induction chars generalizing s with
  | nil => rfl
  | cons c rest ih =>
    rcases brings : mlRxTake s.link.rx c with ⟨rx, event⟩
    simp only [rxRun, brings] at quiet ⊢
    cases event with
    | tooLong | badCrc | good f => simp at quiet
    | quiet =>
      have stepped : s.mlChar c = s.setMlRx rx := by
        rw [State.mlChar, brings]
        rfl
      rw [State.mlChars, List.foldl_cons, stepped]
      exact ih (s := s.setMlRx rx) quiet

/-- The characters of a request frame from HUNTING are the arrival of its good frame (R183, R184). -/
theorem State.mlChars_mlFrameBytes {f : MlFrame} (short : f.body.length ≤ 120) (hunting : s.link.rx = .hunting) :
    s.mlChars (mlFrameBytes f) = (s.setMlRx .hunting).arrive f := by
  obtain ⟨front, c, split⟩ : ∃ front c, front ++ [c] = mlFrameTail f := by
    obtain empty | ⟨front, c, split⟩ := List.eq_nil_or_concat' (mlFrameTail f)
    · exact absurd (congrArg List.length empty) (by simp [length_mlFrameTail])
    · exact ⟨front, c, split.symm⟩
  have bytes : mlFrameBytes f = (mlSync :: front) ++ [c] := by rw [List.cons_append, split]; rfl
  have run : rxRun mlRxTake s.link.rx (mlSync :: front) = (.assembling front, []) := by
    have inside : rxRun mlRxTake (.assembling []) front = (.assembling front, []) :=
      rxRun_assembling (mlRxTake_within short) front [] [c] split (List.cons_ne_nil c [])
    have lead : mlRxTake .hunting mlSync = (.assembling [], .quiet) := rfl
    rw [hunting]
    simp only [rxRun, lead, inside]
  have gathered : s.mlChars (mlSync :: front) = s.setMlRx (.assembling front) := by
    rw [State.mlChars_of_quiet (by rw [run]), run]
  have last : (s.setMlRx (.assembling front)).mlChar c = (s.setMlRx .hunting).arrive f := by
    have brings : mlRxTake (s.setMlRx (.assembling front)).link.rx c = (.hunting, .good f) := mlRxTake_last short split
    rw [State.mlChar, brings]
    rfl
  rw [bytes, State.mlChars, List.foldl_append]
  exact (congrArg (fun u => State.mlChar u c) gathered).trans last

/-- Settles O16. -/
theorem aRequestFrameIsItsCharacters : Obligations.ARequestFrameIsItsCharacters := by
  intro s kind tag body short powered hunting
  refine congrArg Host.Outcome.next ?_
  rw [State.mlChars_mlFrameBytes short hunting, State.ifPowered_of_powered powered]

end Sys2Proof.Machine
end

section
/-! PROOFS. Frames and requests on the media link: waiting, taken, answered (R183 to R186, R195), and the requests that have no
effect (R45, R63, R81, R83, R85, R113, R186, R199). -/

namespace Sys2Proof.Machine

variable {s : State}

/-! ### Frame-level answers and good frames -/

/-- Something that waits is chosen at once by an idle transmitter, and waits behind a busy one (R185). -/
theorem State.chooseIfIdle_of_busy (busy : s.link.tx ≠ .idle) : s.chooseIfIdle = s := if_neg busy

theorem State.answer_eq (ok : s.link.BuffersOk) (reply : MlReply) :
    (s.addAnswer reply).chooseIfIdle = { s with link := answered s.link reply } := by
  obtain ⟨-, -, -, nothing⟩ := ok
  by_cases idle : s.link.tx = .idle
  · obtain ⟨answers, buffer⟩ := nothing idle
    have added : s.addAnswer reply = { s with link := { s.link with answers := [reply] } } := by
      rw [State.addAnswer, answers]
      rfl
    have chosen : State.chooseIfIdle { s with link := { s.link with answers := [reply] } } =
        State.chooseNext { s with link := { s.link with answers := [reply] } } := if_pos idle
    rw [added, chosen, answered, if_pos idle]
    show ({ s with link := { s.link with answers := [], tx := .sending reply } } : State) = _
    rw [← answers]
  · rw [answered, if_neg idle]
    unfold State.addAnswer linkPlaces
    split
    · exact State.chooseIfIdle_of_busy (s := { s with link := { s.link with answers := s.link.answers ++ [reply] } }) idle
    · exact State.chooseIfIdle_of_busy idle

theorem State.setMlRx_buffersOk (ok : s.link.BuffersOk) (rx : Rx) : (s.setMlRx rx).link.BuffersOk := ok

theorem State.answerBadFrame_eq (ok : s.link.BuffersOk) :
    s.answerBadFrame = { s with link := answered s.link ⟨0, 0, .badFrame, .none⟩ } := State.answer_eq ok _

theorem answered_rx (l : MediaLink) (rx : Rx) (reply : MlReply) :
    answered { l with rx := rx } reply = { answered l reply with rx := rx } := by
  unfold answered
  dsimp only
  split
  · rfl
  · split <;> rfl

theorem State.mlEvent_bad (ok : s.link.BuffersOk) {event : RxEvent MlFrame} (bad : event = .tooLong ∨ event = .badCrc) :
    s.mlEvent event = { s with link := answered s.link ⟨0, 0, .badFrame, .none⟩ } := by
  obtain rfl | rfl := bad
  · exact State.answerBadFrame_eq ok
  · exact State.answerBadFrame_eq ok

/-- Characters that bring one bad frame and nothing else (R183 to R185). -/
theorem State.mlChars_bad (ok : s.link.BuffersOk) {chars : List Byte} {event : RxEvent MlFrame}
    (bad : event = .tooLong ∨ event = .badCrc) (brings : (rxRun mlRxTake s.link.rx chars).2 = [event]) :
    s.mlChars chars = { s with link :=
      { answered s.link ⟨0, 0, .badFrame, .none⟩ with rx := (rxRun mlRxTake s.link.rx chars).1 } } := by
  induction chars generalizing s with
  | nil => simp [rxRun] at brings
  | cons c rest ih =>
    rcases first : mlRxTake s.link.rx c with ⟨rx, e⟩
    have stepped : s.mlChars (c :: rest) = ((s.setMlRx rx).mlEvent e).mlChars rest := by
      rw [State.mlChars, List.foldl_cons, State.mlChar, first]
      rfl
    simp only [rxRun, first] at brings ⊢
    rw [stepped]
    cases e with
    | quiet =>
      refine (ih (s := s.setMlRx rx) ok brings).trans ?_
      rw [State.setMlRx]
      dsimp only
      rw [answered_rx]
    | good f =>
      obtain ⟨rfl, -⟩ := List.cons_eq_cons.mp brings
      simp at bad
    | tooLong | badCrc =>
      obtain ⟨rfl, quiet⟩ := List.cons_eq_cons.mp brings
      rw [State.mlEvent_bad (State.setMlRx_buffersOk ok rx) bad, State.setMlRx, answered_rx]
      exact State.mlChars_of_quiet quiet

theorem State.mlAbort_of_hunting (hunting : s.link.rx = .hunting) : s.mlAbort = s := by
  rw [State.mlAbort, hunting]

theorem State.mlAbort_of_assembling (ok : s.link.BuffersOk) (inFrame : s.link.rx ≠ .hunting) :
    s.mlAbort = { s with link := { answered s.link ⟨0, 0, .badFrame, .none⟩ with rx := .hunting } } := by
  cases rx : s.link.rx with
  | hunting => exact absurd rx inFrame
  | assembling taken =>
    rw [State.mlAbort, rx]
    dsimp only
    rw [State.answerBadFrame_eq (State.setMlRx_buffersOk ok .hunting), State.setMlRx]
    dsimp only
    rw [answered_rx]

/-- A row of a request that comes to an idle transmitter is its frame's arrival (R185; log 6). -/
theorem State.takeMlFrame_of_idle (ok : s.link.BuffersOk) (idle : s.link.tx = .idle) (f : MlFrame) :
    s.takeMlFrame f = s.arrive f := by
  obtain ⟨-, -, -, nothing⟩ := ok
  obtain ⟨answers, buffer⟩ := nothing idle
  have finished : s.finishTx = s := by
    rw [State.finishTx_of_ready (by rw [idle]; rfl), State.setTx, ← idle]
  have next : s.transmitNext = s := by
    rw [State.transmitNext, finished, State.chooseNext_of_empty answers buffer]
  rw [State.takeMlFrame, if_neg (by simp [buffer]), next]

/-- A good frame behind a busy transmitter joins the buffer (R184). -/
theorem State.arrive_of_place (busy : s.link.tx ≠ .idle) (place : s.link.buffer.length < 4) (f : MlFrame) :
    s.arrive f = { s with link := { s.link with buffer := s.link.buffer ++ [f] } } := by
  rw [State.arrive, State.offer, if_pos place]
  exact State.chooseIfIdle_of_busy (s := { s with link := { s.link with buffer := s.link.buffer ++ [f] } }) busy

/-- A good frame that finds no place is answered OVERRUN under its own kind and tag (R184). -/
theorem State.arrive_of_full (ok : s.link.BuffersOk) (full : 4 ≤ s.link.buffer.length) (f : MlFrame) :
    s.arrive f = { s with link := answered s.link ⟨f.kind, f.tag, .overrun, .none⟩ } := by
  rw [State.arrive, State.offer, if_neg (by simpa [linkPlaces] using full)]
  exact State.answer_eq ok _

/-- Settles O20. -/
theorem mlrxFramesWaitOrAreAnswered : Obligations.MlrxFramesWaitOrAreAnswered := by
  refine ⟨fun s chars powered ok => ⟨fun long => ?_, fun failed => ?_, fun quiet c row => ?_⟩,
    fun s kind tag body powered ok => ?_⟩
  · refine congrArg Host.Outcome.next ?_
    rw [State.ifPowered_of_powered powered]
    exact State.mlChars_bad ok (.inl rfl) (eq_of_beq long)
  · refine congrArg Host.Outcome.next ?_
    rw [State.ifPowered_of_powered powered]
    exact State.mlChars_bad ok (.inr rfl) (eq_of_beq failed)
  · have aborts : exec c s = .next (s.mlChars chars).mlAbort := by
      rw [← State.ifPowered_of_powered powered (fun s => (s.mlChars chars).mlAbort)]
      obtain rfl | rfl := List.mem_pair.mp row
      · rfl
      · rfl
    rw [aborts, State.mlChars_of_quiet quiet]
    refine ⟨fun hunting => congrArg _ ?_, fun inFrame => congrArg _ ?_⟩
    · rw [State.mlAbort_of_hunting hunting, hunting]
      rfl
    · rw [State.mlAbort_of_assembling (State.setMlRx_buffersOk ok _) inFrame, State.setMlRx]
      dsimp only
      rw [answered_rx]
  · have row : exec (.mlGoodFrame kind tag body) s = .next ((s.setMlRx .hunting).arrive ⟨kind, tag, body⟩) := by
      rw [← State.ifPowered_of_powered powered (fun s => (s.setMlRx .hunting).arrive ⟨kind, tag, body⟩)]
      rfl
    have okThen := State.setMlRx_buffersOk ok .hunting
    rw [row]
    refine ⟨fun idle => ⟨?_, fun unknown => ?_⟩, fun busy place => ?_, fun busy full => ?_⟩
    · rintro k rfl
      have taken := (State.ifPowered_of_powered (s := s.setMlRx .hunting) powered (fun s => s.takeRequest k tag body)).trans
        (State.takeMlFrame_of_idle okThen idle ⟨k.code, tag, body⟩)
      exact ((exec_request k tag body (s.setMlRx .hunting)).trans (congrArg _ taken)).symm
    · have taken :=
        (State.ifPowered_of_powered (s := s.setMlRx .hunting) powered (fun s => s.takeMlFrame ⟨kind, tag, body⟩)).trans
          (State.takeMlFrame_of_idle okThen idle ⟨kind, tag, body⟩)
      exact (congrArg Host.Outcome.next taken).symm
    · exact congrArg _ (State.arrive_of_place (s := s.setMlRx .hunting) busy place _)
    · rw [State.arrive_of_full okThen full, State.setMlRx]
      dsimp only
      rw [answered_rx]

/-! ### The transmitter's choice -/

theorem State.exec_transmitComplete (powered : s.powered = true) : exec .transmitComplete s = .next s.transmitNext := by
  rw [← State.ifPowered_of_powered powered State.transmitNext]
  rfl

/-- The oldest answer is sent first (R185 step 1). -/
theorem State.transmitNext_of_answer (plain : s.link.tx.isRestart = false) {a : MlReply} {rest : List MlReply}
    (answers : s.link.answers = a :: rest) :
    s.transmitNext = { s with link := { s.link with tx := .sending a, answers := rest } } := by
  rw [State.transmitNext, State.finishTx_of_ready plain, State.chooseNext, State.answers_setTx, answers]
  rfl

/-- Without an answer the oldest request of the buffer is judged with nothing waiting, and answered (R185 step 2). -/
theorem State.transmitNext_of_frame (powered : s.powered = true) (plain : s.link.tx.isRestart = false)
    (answers : s.link.answers = []) {f : MlFrame} {rest : List MlFrame} (buffer : s.link.buffer = f :: rest) :
    s.transmitNext = ((s.setBuffer []).takeMlFrame f).setBuffer rest := by
  have ready : (s.setBuffer []).Ready := ⟨powered, plain, answers, rfl⟩
  rw [State.takeMlFrame_of_ready ready, State.transmitNext, State.finishTx_of_ready plain, State.chooseNext,
    State.answers_setTx, answers, State.buffer_setTx, buffer]
  rfl

theorem State.transmitNext_of_empty (plain : s.link.tx.isRestart = false) (answers : s.link.answers = [])
    (buffer : s.link.buffer = []) : s.transmitNext = s.setTx .idle := by
  rw [State.transmitNext, State.finishTx_of_ready plain]
  exact State.chooseNext_of_empty (s := s.setTx .idle) answers buffer

/-- What the transmitter's choice keeps: the supply and the receiver's state. -/
theorem State.chooseNext_keeps (s : State) : s.chooseNext.powered = s.powered ∧ s.chooseNext.link.rx = s.link.rx := by
  unfold State.chooseNext
  split
  · exact ⟨rfl, rfl⟩
  · split
    · next f rest _ =>
      have judged := (Moves.judgeFrame (s.setBuffer []) f).linksStand
      exact ⟨judged.powered, judged.mlRx⟩
    · exact ⟨rfl, rfl⟩

/-- What a restart keeps and empties (R195). -/
theorem State.takeRestart_keeps (s : State) :
    s.takeRestart.powered = s.powered ∧ s.takeRestart.link.rx = s.link.rx ∧ s.takeRestart.link.buffer = [] := by
  have untuned : Moves { s with link := { s.link with buffer := [], tx := .idle } }
      (State.untuneAll { s with link := { s.link with buffer := [], tx := .idle } }) :=
    .foldl (fun s n => (Move.untune s n).moves) screens _
  have stands := untuned.linksStand
  unfold State.takeRestart
  dsimp only
  generalize State.untuneAll _ = u at stands ⊢
  exact ⟨stands.powered, stands.mlRx, stands.buffer⟩

theorem State.transmitNext_keeps (s : State) :
    s.transmitNext.powered = s.powered ∧ s.transmitNext.link.rx = s.link.rx := by
  obtain ⟨powered, rx⟩ := s.finishTx.chooseNext_keeps
  have finished : s.finishTx.powered = s.powered ∧ s.finishTx.link.rx = s.link.rx := by
    unfold State.finishTx
    split
    · obtain ⟨powered, rx, -⟩ := s.takeRestart_keeps
      exact ⟨powered, rx⟩
    · exact ⟨rfl, rfl⟩
  exact ⟨powered.trans finished.1, rx.trans finished.2⟩

theorem State.chooseNext_of_no_frame (empty : s.link.buffer = []) : s.chooseNext.link.buffer = [] := by
  unfold State.chooseNext
  split
  · exact empty
  · rw [empty]
    exact empty

/-- After a RESTART reply the transmitter finds the buffer empty, and leaves it so (R195). -/
theorem State.transmitNext_of_restart (restart : s.link.tx.isRestart = true) : s.transmitNext.link.buffer = [] := by
  obtain ⟨-, -, empty⟩ := s.takeRestart_keeps
  rw [State.transmitNext, State.finishTx, if_pos restart]
  exact State.chooseNext_of_no_frame empty

theorem State.arrive_setMlRx_of_hunting (hunting : s.link.rx = .hunting) : s.setMlRx .hunting = s := by
  rw [State.setMlRx, ← hunting]

/-- Settles O21. -/
theorem theTransmitterTakesTheOldest : Obligations.TheTransmitterTakesTheOldest := by
  refine ⟨fun s powered plain => ?_, fun s k tag body powered => ?_⟩
  · rw [State.exec_transmitComplete powered]
    refine ⟨fun a rest answers => congrArg _ (State.transmitNext_of_answer plain answers), fun f rest answers buffer => ?_,
      fun answers buffer => congrArg _ (State.transmitNext_of_empty plain answers buffer)⟩
    have chosen := State.transmitNext_of_frame powered plain answers buffer
    have alone := State.ifPowered_of_powered (s := s.setBuffer []) powered (fun s => s.takeMlFrame f)
    refine ⟨fun k kind => ⟨(s.setBuffer []).takeMlFrame f, ?_, congrArg _ chosen⟩,
      fun _ => ⟨(s.setBuffer []).takeMlFrame f, congrArg Host.Outcome.next alone, congrArg _ chosen⟩⟩
    have request := exec_request k f.tag f.body (s.setBuffer [])
    rw [State.ifPowered_of_powered (s := s.setBuffer []) powered] at request
    unfold State.takeRequest at request
    rwa [← kind] at request
  · obtain ⟨stillPowered, rx⟩ := s.transmitNext_keeps
    rw [State.exec_transmitComplete powered, exec_request, State.ifPowered_of_powered powered, State.takeRequest,
      State.takeMlFrame]
    refine ⟨fun waits => congrArg _ (if_pos waits), fun new hunting => ⟨_, rfl, ?_⟩, fun restart => ⟨_, rfl, ?_, ?_⟩⟩
    · have arrives : exec (.mlGoodFrame k.code tag body) s.transmitNext =
          .next ((s.transmitNext.setMlRx .hunting).arrive ⟨k.code, tag, body⟩) :=
        congrArg Host.Outcome.next (State.ifPowered_of_powered (stillPowered.trans powered) _)
      rw [if_neg new, arrives, State.arrive_setMlRx_of_hunting (rx.trans hunting)]
    · refine congrArg Host.Outcome.next ?_
      rw [State.ifPowered_of_powered powered, if_pos restart]
    · exact State.transmitNext_of_restart restart

/-! ### Requests without an effect -/

/-- A frame that is judged without an effect is answered and changes the transmitter alone (R185, R186). -/
theorem State.takeMlFrame_onlyReplied (ready : s.Ready) {f : MlFrame} {result : Result} {body : ReplyBody}
    (judged : (s.setTx .idle).judgeFrame f = (s.setTx .idle, result, body)) :
    OnlyReplied s (s.takeMlFrame f) f result body := by
  obtain ⟨-, -, -, buffer⟩ := id ready
  have emptied : (s.setTx .idle).setBuffer [] = s.setTx .idle := State.setBuffer_of_empty (s := s.setTx .idle) buffer
  rw [State.takeMlFrame_of_ready ready, judged, emptied]
  exact ⟨⟨rfl, rfl, rfl, rfl⟩, rfl⟩

theorem exec_request_onlyReplied (ready : s.Ready) {k : MlKind} {tag : Byte} {body : List Byte} {result : Result}
    {answer : ReplyBody} (judged : (s.setTx .idle).judgeRequest k body = (s.setTx .idle, result, answer)) :
    ∃ t, exec (k.request tag body) s = .next t ∧ OnlyReplied s t ⟨k.code, tag, body⟩ result answer := by
  refine ⟨_, exec_request k tag body s, ?_⟩
  rw [State.ifPowered_of_powered ready.1]
  exact State.takeMlFrame_onlyReplied ready (by rw [State.judgeFrame, mlKindOf_code]; exact judged)

theorem screenOf_none {v : Nat} (outside : 4 ≤ v) : screenOf v = none := dif_neg (by omega)

theorem screenOf_some {v : Nat} (inside : v < 4) : screenOf v = some ⟨v, inside⟩ := dif_pos inside

/-- The first byte of a body is its screen (11.5). -/
theorem field_first (a : Byte) (body : List Byte) : field (a :: body) 0 1 = a.toNat := by simp [field, beNat]

/-- Every request that names a screen outside 0..3 has no effect (R199). -/
theorem State.judgeRequest_badScreen (s : State) {k : MlKind} {a : Byte} {body : List Byte} (outside : 4 ≤ a.toNat)
    (names : k ∈ [MlKind.tune, .untune, .screenReport, .purchase, .unlock, .relock, .setCeilings])
    (fits : (a :: body).length ∈ k.bodyLengths) : s.judgeRequest k (a :: body) = (s, .badScreen, .none) := by
  have none := screenOf_none outside
  rw [State.judgeRequest, if_pos fits]
  simp only [List.mem_cons, List.not_mem_nil, or_false] at names
  rcases names with rfl | rfl | rfl | rfl | rfl | rfl | rfl
  · simp only [State.mlAct, field_first, State.tuneRequest, none]
  · simp only [State.mlAct, field_first, State.untuneRequest, none]
  · simp only [State.mlAct, field_first, State.reportRequest, none]
  · simp only [State.mlAct, field_first, State.purchaseRequest, none]
  · simp only [State.mlAct, field_first, State.unlockRequest, none]
  · simp only [State.mlAct, field_first, State.relockRequest, none]
  · simp only [State.mlAct, field_first, State.ceilingsRequest, none]

/-- A TUNE to a service that there cannot be has no effect (R45, R199). -/
theorem State.judgeRequest_noService (s : State) {b : Byte} (inside : b.toNat < 4) {service : Nat}
    (wrong : service = 0 ∨ (4095 < service ∧ service ≤ 65535)) :
    s.judgeRequest .tune (b :: beBytes 2 service) = (s, .noService, .none) := by
  have read : field (b :: beBytes 2 service) 1 2 = service := by
    have laid := field_beBytes (n := service) (len := 2) (by omega) [b] []
    rwa [List.append_nil] at laid
  have zero : serviceOf service = 0 := by
    unfold serviceOf
    split <;> omega
  rw [State.judgeRequest, if_pos (by simp [MlKind.bodyLengths])]
  simp only [State.mlAct, field_first, read, zero, State.tuneRequest, screenOf_some inside, if_true]

/-- Settles O22. -/
theorem unfitRequestsHaveNoEffect : Obligations.UnfitRequestsHaveNoEffect := by
  refine ⟨fun s kind tag k body ready => ⟨fun unknown => ?_, fun unfit => ?_⟩,
    fun s tag a b service quads pin ready outside four pinned => ⟨fun x listed => ?_, fun inside wrong => ?_⟩⟩
  · refine ⟨_, congrArg Host.Outcome.next (State.ifPowered_of_powered ready.1 _), ?_⟩
    exact State.takeMlFrame_onlyReplied ready (by rw [State.judgeFrame, mlKindOf_none unknown])
  · exact exec_request_onlyReplied ready (if_neg unfit)
  · simp only [List.mem_cons, List.not_mem_nil, or_false] at listed
    rcases listed with rfl | rfl | rfl | rfl | rfl | rfl | rfl
    all_goals
      refine exec_request_onlyReplied ready (State.judgeRequest_badScreen _ outside (by simp) ?_)
      rcases pinned with rfl | two <;> simp [MlKind.bodyLengths, *]
  · exact exec_request_onlyReplied (k := .tune) ready (State.judgeRequest_noService _ inside wrong)

end Sys2Proof.Machine
end

section
/-! SUPPORT. A raised notice (R189, R191), and what an answered request leaves of the media link (R185, R186). -/

namespace Sys2Proof.Machine

variable {s : State}

/-! ### Notices -/

theorem MediaLink.noticesAfter_of_queued {l : MediaLink} {p : NoticePair} (queued : ∃ n ∈ l.notices, n.pair = p)
    (snapshot : Snapshot) (fault : Bool) :
    l.noticesAfter p snapshot fault = l.notices.map (fun n => n.coalesce p snapshot) := by
  obtain ⟨n, waits, pair⟩ := queued
  exact if_pos (List.any_eq_true.mpr ⟨n, waits, decide_eq_true pair⟩)

theorem MediaLink.noticesAfter_of_new {l : MediaLink} {p : NoticePair} (new : ∀ n ∈ l.notices, n.pair ≠ p)
    (snapshot : Snapshot) (fault : Bool) :
    l.noticesAfter p snapshot fault = if l.files p fault then l.notices ++ [⟨p, snapshot, 1⟩] else l.notices :=
  if_neg (by simpa using new)

/-- The modes and marks under which a raised notice is filed (R191). -/
theorem MediaLink.files_iff (l : MediaLink) (p : NoticePair) (fault : Bool) :
    l.files p fault = true ↔ l.modes.of p = .every ∨ (l.modes.of p = .first ∧ l.armed.get p.index = true) ∨
      (l.modes.of p = .faultOnly ∧ fault = true) := by
  rw [MediaLink.files]
  cases l.modes.of p <;> simp

theorem MediaLink.armedAfter_of_ne_first {l : MediaLink} {p : NoticePair} (mode : l.modes.of p ≠ .first) (fault : Bool) :
    l.armedAfter p fault = l.armed := if_neg (fun first => mode first.1)

/-- Filing under FIRST disarms, and a disarmed pair stays so (R191; log 20). -/
theorem MediaLink.armedAfter_self {l : MediaLink} {p : NoticePair} (mode : l.modes.of p = .first) (fault : Bool) :
    (l.armedAfter p fault).get p.index = false := by
  have files : l.files p fault = l.armed.get p.index := by rw [MediaLink.files, mode]
  rw [MediaLink.armedAfter, files]
  by_cases armed : l.armed.get p.index = true
  · rw [if_pos ⟨mode, armed⟩]
    exact get_set_self ..
  · rw [if_neg (fun both => armed both.2)]
    exact Bool.not_eq_true _ ▸ armed

theorem MediaLink.armedAfter_ne (l : MediaLink) {p q : NoticePair} (other : q ≠ p) (fault : Bool) :
    (l.armedAfter p fault).get q.index = l.armed.get q.index := by
  unfold MediaLink.armedAfter
  split
  · exact get_set_ne _ (fun same => other (NoticePair.index_injective same)) _
  · rfl

/-- Settles O59. -/
theorem aNoticeIsFiledOrCoalesced : Obligations.ANoticeIsFiledOrCoalesced := by
  rintro s t p snapshot fault rfl
  have notices : (s.raise p snapshot fault).link.notices = s.link.noticesAfter p snapshot fault := rfl
  have armed : (s.raise p snapshot fault).link.armed = s.link.armedAfter p fault := rfl
  rw [notices, armed]
  refine ⟨rfl, rfl, fun queued => ?_, fun new => ⟨fun filed => ?_, fun dropped => ?_, fun first =>
    MediaLink.armedAfter_self first fault⟩, fun mode => MediaLink.armedAfter_of_ne_first mode fault,
    fun q other => s.link.armedAfter_ne other fault⟩
  · rw [MediaLink.noticesAfter_of_queued queued]
    refine List.map_congr_left fun n _ => ?_
    unfold Notice.coalesce
    split
    · next pair => rw [pair]
    · rfl
  · rw [MediaLink.noticesAfter_of_new new, if_pos ((s.link.files_iff p fault).mpr filed)]
  · rw [MediaLink.noticesAfter_of_new new, if_neg]
    rw [s.link.files_iff]
    rintro (every | ⟨first, mark⟩ | ⟨faultOnly, isFault⟩) <;> simp_all

theorem State.raise_shows_of_every {p : NoticePair} (mode : s.link.modes.of p = .every) (v : Snapshot) (fault : Bool) :
    Shows (s.raise p v fault) p v := State.raise_shows (MediaLink.files_every mode fault)

/-! ### Answered requests -/

theorem Moves.judgeRequest (s : State) (k : MlKind) (body : List Byte) : Moves s (s.judgeRequest k body).1 := by
  unfold State.judgeRequest
  split
  · exact .mlAct s k body
  · exact .refl s

/-- A request row at a ready part is its judgement, answered (R185, R186). -/
theorem exec_request_of_ready (ready : s.Ready) {k : MlKind} (tag : Byte) {body : List Byte} {u : State} {result : Result}
    {answer : ReplyBody} (judged : (s.setTx .idle).judgeRequest k body = (u, result, answer)) :
    exec (k.request tag body) s = .next (u.send ⟨k.code, tag, result, answer⟩) ∧
      Replied s (u.send ⟨k.code, tag, result, answer⟩) ⟨k.code, tag, body⟩ result answer := by
  obtain ⟨powered, -, answers, buffer⟩ := id ready
  have stands : LinksStand (s.setTx .idle) u := by
    have moved := Moves.judgeRequest (s.setTx .idle) k body
    rw [judged] at moved
    exact moved.linksStand
  have emptied : u.setBuffer [] = u := State.setBuffer_of_empty (stands.buffer.trans buffer)
  refine ⟨?_, rfl, stands.mlRx, stands.answers, stands.buffer⟩
  rw [exec_request, State.ifPowered_of_powered powered, State.takeRequest_of_ready ready, judged, emptied]

/-- A request of a right length is judged by its owner (R186 step 3). -/
theorem State.judgeRequest_of_length {k : MlKind} {body : List Byte} (fits : body.length ∈ k.bodyLengths) :
    s.judgeRequest k body = s.mlAct k body := if_pos fits

theorem field_two (hi lo : Byte) : field [hi, lo] 0 2 = hi.toNat * 256 + lo.toNat := by simp [field, beNat]

/-- The screen that a request's first byte names (R199). -/
theorem screenOf_toNat {a : Byte} {n : Screen} (names : a.toNat = n.val) : screenOf a.toNat = some n := by
  rw [screenOf_some (names ▸ n.isLt)]
  exact congrArg some (Fin.ext names)

theorem State.lineupAnswer_of_none {service : Nat} (none : s.entry service = none) :
    s.lineupAnswer service = (.unknownService, .lineup s.lineup.generation .none .none) := by
  rw [State.lineupAnswer, none]

/-- Settles O47. -/
theorem readingChangesNothing : Obligations.ReadingChangesNothing := by
  intro s tag a hi lo n ready screen
  have held : (s.setTx .idle).held = s.charges.entries.head?.any (fun e => e.state == .declined) :=
    (s.setTx .idle).held_eq
  have service : serviceOf (field [hi, lo] 0 2) = if hi.toNat < 16 then hi.toNat * 256 + lo.toNat else 0 := by
    have := lo.isLt
    rw [field_two, serviceOf]
    split <;> split <;> omega
  refine ⟨exec_request_onlyReplied (k := .identify) ready rfl, exec_request_onlyReplied (k := .status) ready rfl,
    exec_request_onlyReplied (k := .screenReport) ready ?_, exec_request_onlyReplied (k := .rentalsRead) ready rfl,
    exec_request_onlyReplied (k := .chargesRead) ready ?_,
    fun e found low => exec_request_onlyReplied (k := .lineupRead) ready ?_,
    fun absent => exec_request_onlyReplied (k := .lineupRead) ready ?_⟩
  · have judged : (s.setTx .idle).judgeRequest .screenReport [a] = (s.setTx .idle).reportRequest (field [a] 0 1) := rfl
    rw [judged, field_first, State.reportRequest, screenOf_toNat screen]
    rfl
  · rw [← held]
    rfl
  · have judged : (s.setTx .idle).judgeRequest .lineupRead [hi, lo] =
        (s.setTx .idle, (s.setTx .idle).lineupAnswer (serviceOf (field [hi, lo] 0 2))) := rfl
    rw [judged, service, if_pos low]
    refine congrArg (Prod.mk _) ?_
    unfold State.lineupAnswer
    split
    · next none => exact absurd (found.symm.trans none) (by simp)
    · next entry => cases found.symm.trans entry; rfl
  · have judged : (s.setTx .idle).judgeRequest .lineupRead [hi, lo] =
        (s.setTx .idle, (s.setTx .idle).lineupAnswer (serviceOf (field [hi, lo] 0 2))) := rfl
    have none : (s.setTx .idle).entry (if hi.toNat < 16 then hi.toNat * 256 + lo.toNat else 0) = .none := by
      rw [State.entry, entryIn, List.find?_eq_none]
      exact fun e held => by simpa using absent e held
    rw [judged, service, State.lineupAnswer_of_none none]
    rfl

/-- Settles O57. -/
theorem theInterfaceServesTheHost : Obligations.TheInterfaceServesTheHost := by
  intro s tag hi lo modes i ready nine
  have powered := ready.1
  have address : addressOf (field [hi, lo] 0 2) =
      if hi.toNat * 256 + lo.toNat ≤ 1022 then hi.toNat * 256 + lo.toNat else 0 := by
    rw [field_two, addressOf]
    split <;> split <;> omega
  have judged : (s.setTx .idle).judgeRequest .setRoomAddress [hi, lo] =
      (s.setTx .idle).addressRequest (addressOf (field [hi, lo] 0 2)) := rfl
  refine ⟨?_, ?_, fun vacant => ?_, fun notVacant => ?_, exec_request_onlyReplied (k := .restart) ready rfl⟩
  · obtain ⟨done, replied⟩ := exec_request_of_ready (k := .noticesRead) (body := []) ready tag rfl
    exact ⟨_, done, replied, rfl, Bool.and_false _⟩
  · have nineModes : modes.length ∈ MlKind.noticeModes.bodyLengths := by simp [MlKind.bodyLengths, nine]
    obtain ⟨done, replied⟩ := exec_request_of_ready (k := .noticeModes) ready tag (State.judgeRequest_of_length nineModes)
    refine ⟨_, done, replied, rfl, get_replicate i true, ?_⟩
    show (s.powered && !_) = true ↔ _
    rw [powered, Bool.true_and, Bool.not_eq_true', List.isEmpty_eq_false_iff]
  · rw [State.addressRequest, if_neg (fun not => not vacant), address] at judged
    generalize (if hi.toNat * 256 + lo.toNat ≤ 1022 then hi.toNat * 256 + lo.toNat else 0) = stored at judged ⊢
    obtain ⟨done, replied⟩ := exec_request_of_ready (k := .setRoomAddress) ready tag judged
    refine ⟨_, done, ?_⟩
    by_cases same : stored = s.room.address
    · rw [if_pos (show stored = (s.setTx .idle).room.address from same)] at replied ⊢
      exact ⟨rfl, replied, rfl, rfl, fun ne => absurd same ne, fun _ => rfl⟩
    · rw [if_neg (show ¬ stored = (s.setTx .idle).room.address from same)] at replied ⊢
      exact ⟨rfl, replied, rfl, rfl, fun _ => State.raise_shows_of_every (p := .room) rfl _ _, fun eq => absurd eq same⟩
  · refine exec_request_onlyReplied (k := .setRoomAddress) ready ?_
    rw [judged, State.addressRequest, if_pos (show (s.setTx .idle).room.occupancy ≠ .vacant from notVacant)]

end Sys2Proof.Machine
end

section
/-! PROOFS. The timers and tests that write one block: the lockout and the line (R75, R179), a key half (R25), the cap period (R100,
R101), and a second on which nothing falls due (R121). -/

namespace Sys2Proof.Machine

variable {s : State}

theorem KeyHalf.tested_of_due {h : KeyHalf} {c : ClockUnit} (set : c.isSet = true) (loaded : h.state ≠ .empty)
    (reached : h.validUntil ≤ c.count) : h.tested c = .noKey := if_pos ⟨set, loaded, reached⟩

/-- Settles O28. -/
theorem dueTimersEnd : Obligations.DueTimersEnd := by
  refine ⟨fun s stop powered => ⟨fun locked ends due => ?_, fun up silent => ?_⟩,
    fun s slot p powered set loaded reached => ?_⟩
  · have test : s.lockoutTest = s.endLockout := if_pos (by simp [State.lockoutDue, locked, ends, due])
    refine ⟨s.endLockout, congrArg Host.Outcome.next ?_, rfl, rfl, fun every => ?_⟩
    · rw [State.ifPowered_of_powered powered, test]
    · exact State.raise_shows_of_every (p := .pin) every _ _
  · have test : s.silenceTest = State.raiseLine { s with line := { s.line with up := false, silence := 300 } } :=
      if_pos ⟨up, silent⟩
    refine ⟨_, congrArg Host.Outcome.next ((State.ifPowered_of_powered powered _).trans test), rfl, rfl, fun mode => ?_⟩
    exact State.raise_shows (MediaLink.files_fault (p := .line) mode)
  · have emptied := KeyHalf.tested_of_due set loaded reached
    refine ⟨s.expireHalf slot p, congrArg Host.Outcome.next (State.ifPowered_of_powered powered _), ?_, ?_, ?_, rfl⟩
    · rw [State.expireHalf, State.half_setHalf_self, emptied]
      rfl
    · exact State.half_setHalf_partner s slot p _
    · exact fun k other => State.keys_setHalf_ne s other p _

theorem boundaryAfter_spec {capReset : Nat} (low : capReset ≤ 86399) (t : Nat) :
    t < boundaryAfter t capReset ∧ boundaryAfter t capReset % 86400 = capReset ∧
      ∀ x, t < x → x % 86400 = capReset → boundaryAfter t capReset ≤ x := by
  unfold boundaryAfter daySeconds
  split
  · exact ⟨by omega, by omega, fun x later on => by omega⟩
  · exact ⟨by omega, by omega, fun x later on => by omega⟩

/-- The first boundary after a boundary is one day later (R100). -/
theorem boundaryAfter_of_boundary {capReset t : Nat} (on : t % 86400 = capReset) :
    boundaryAfter t capReset = t + 86400 := by
  unfold boundaryAfter daySeconds
  rw [if_neg (by omega)]
  omega

/-- The boundary at or before an instant that is not before the first boundary (R100; log 35). -/
theorem boundaryAtOrBefore_spec {capReset t : Nat} (_ : capReset ≤ 86399) (first : capReset ≤ t) :
    boundaryAtOrBefore t capReset ≤ t ∧ t < boundaryAtOrBefore t capReset + 86400 ∧
      boundaryAtOrBefore t capReset % 86400 = capReset := by
  unfold boundaryAtOrBefore boundaryAfter daySeconds
  split <;> omega

/-- Settles O32. -/
theorem theCapPeriodRollsOver : Obligations.TheCapPeriodRollsOver := by
  refine ⟨fun t capReset low => boundaryAfter_spec low t, fun s p powered set running reached low first => ?_⟩
  have test : s.periodTest = s.rollover := if_pos (by simp [State.periodDue, set, running, reached])
  obtain ⟨before, within, on⟩ := boundaryAtOrBefore_spec low first
  have day := boundaryAfter_of_boundary on
  refine ⟨s.rollover, capWindowFrom (boundaryAtOrBefore s.clock.count s.room.terms.capReset) s.room.terms.capReset,
    congrArg Host.Outcome.next ((State.ifPowered_of_powered powered _).trans test), rfl, rfl, before, ?_, day, on, ?_⟩
  · exact within.trans_eq day.symm
  · exact State.raise_shows_of_every (p := .room) rfl _ _

end Sys2Proof.Machine
end

section
/-! SUPPORT. Bodies laid out field by field, read back (11.2). -/

namespace Sys2Proof.Machine

/-! ### Fields in a row -/

theorem field_behind {front : List Byte} {offset : Nat} (behind : front.length ≤ offset) (rest : List Byte) (len : Nat) :
    field (front ++ rest) offset len = field rest (offset - front.length) len := by
  rw [field, field, List.drop_append, List.drop_eq_nil_of_le behind, List.nil_append]

theorem field_skip {k offset len : Nat} (behind : k ≤ offset) (n : Nat) (rest : List Byte) :
    field (beBytes k n ++ rest) offset len = field rest (offset - k) len := by
  rw [field_behind (by simpa using behind), length_beBytes]

theorem field_here {len n : Nat} (fits : n < 256 ^ len) (rest : List Byte) : field (beBytes len n ++ rest) 0 len = n :=
  field_beBytes fits [] rest

theorem field_last {len n : Nat} (fits : n < 256 ^ len) : field (beBytes len n) 0 len = n := by
  have here := field_here fits []
  rwa [List.append_nil] at here

theorem byteAt_skip {k offset : Nat} (behind : k ≤ offset) (n : Nat) (rest : List Byte) :
    byteAt (beBytes k n ++ rest) offset = byteAt rest (offset - k) := by
  rw [byteAt, byteAt, List.getD_append_right _ _ _ _ (by simpa using behind), length_beBytes]

theorem byteAt_here (n : Nat) (rest : List Byte) : byteAt (beBytes 1 n ++ rest) 0 = BitVec.ofNat 8 n := rfl

/-! ### Values in their ranges -/

theorem serviceOf_of_le {v : Nat} (low : v ≤ 4095) : serviceOf v = v := if_neg (by omega)

theorem priceCodeOf_val (code : Fin 32) : priceCodeOf code.val = code := Fin.ext (by simp [priceCodeOf]; omega)

theorem clamp_of_mem {low high v : Nat} (above : low ≤ v) (below : v ≤ high) : clamp low high v = v := by
  rw [clamp, min_eq_left below, max_eq_right above]

theorem quadWord_ratingWord {r : Rating} (ok : r.Ok) : quadWord (ratingWord r) = r := by
  obtain ⟨a, v, l, x⟩ := ok
  have age : ratingWord r / 4096 % 16 = r.age := by unfold ratingWord; omega
  have violence : ratingWord r / 256 % 16 = r.violence := by unfold ratingWord; omega
  have language : ratingWord r / 16 % 16 = r.language := by unfold ratingWord; omega
  have sexual : ratingWord r % 16 = r.sexual := by unfold ratingWord; omega
  rw [quadWord, age, violence, language, sexual]

theorem ratingWord_lt {r : Rating} (ok : r.Ok) : ratingWord r < 256 ^ 2 := by
  obtain ⟨a, v, l, x⟩ := ok
  unfold ratingWord
  omega

theorem flagByte_lt (e : LineupEntry) : e.flagByte < 256 ^ 1 := by
  have adult : e.adult.toNat ≤ 1 := Bool.toNat_le e.adult
  rw [LineupEntry.flagByte]
  split
  · next slot _ => have := slot.isLt; omega
  · omega

/-- The flag byte gives back the adult flag and the key slot (11.2). -/
theorem flagByte_spec (e : LineupEntry) :
    (BitVec.ofNat 8 e.flagByte).getLsbD 7 = e.adult ∧
      (if (BitVec.ofNat 8 e.flagByte).getLsbD 6 then some ((BitVec.ofNat 8 e.flagByte).extractLsb' 0 4).toFin else none) =
        e.keySlot := by
  rw [LineupEntry.flagByte]
  generalize e.adult = adult
  generalize e.keySlot = keySlot
  revert adult keySlot
  decide

theorem pinOf_pinField {pin : Option Nat} (ok : ∀ p ∈ pin, p ≤ 9999) : pinOf (pin.getD 0xFFFF) = pin := by
  cases pin with
  | none => rfl
  | some p =>
    have low := ok p rfl
    rw [Option.getD_some, pinOf, if_neg (by omega), min_eq_left low]

theorem getD_pin_lt {pin : Option Nat} (ok : ∀ p ∈ pin, p ≤ 9999) : pin.getD 0xFFFF < 256 ^ 2 := by
  cases pin with
  | none => decide
  | some p =>
    have low := ok p rfl
    rw [Option.getD_some]
    omega

end Sys2Proof.Machine
end

section
/-! PROOFS. Command bodies decode to what they were laid out from (R1, R17, R21, R92, R98, R198). -/

namespace Sys2Proof.Machine

theorem lineupEntryOf_layout {e : LineupEntry} (ok : e.Ok) : lineupEntryOf e.layout = e := by
  obtain ⟨low, high, rating, terms⟩ := ok
  have word := ratingWord_lt rating
  have flags := flagByte_lt e
  obtain ⟨adult, keySlot⟩ := flagByte_spec e
  have service : e.service < 256 ^ 2 := by omega
  have back := quadWord_ratingWord rating
  have readService : field e.layout 0 2 = e.service := by
    simp only [LineupEntry.layout, List.append_assoc, field_here service]
  have readFlags : byteAt e.layout 3 = BitVec.ofNat 8 e.flagByte := by
    simp only [LineupEntry.layout, List.append_assoc, byteAt_skip, byteAt_here, Nat.reduceLeDiff, Nat.reduceSub]
  have readRating : field e.layout 6 2 = ratingWord e.rating := by
    simp only [LineupEntry.layout, Terms.layout, List.append_assoc, field_skip, field_here word, Nat.reduceLeDiff, Nat.reduceSub]
  have readCode : field e.layout 2 1 = e.terms.code := by
    have code : e.terms.code < 256 ^ 1 := by cases e.terms <;> exact Nat.lt_of_sub_eq_succ rfl
    simp only [LineupEntry.layout, List.append_assoc, field_skip, field_here code, Nat.reduceLeDiff, Nat.reduceSub]
  have readPackage {number : Nat} (is : e.terms.packageNumber = some number) (fits : number < 256 ^ 1) :
      field e.layout 4 1 = number := by
    simp only [LineupEntry.layout, Terms.layout, is, Option.getD_some, List.append_assoc, field_skip, field_here fits,
      Nat.reduceLeDiff, Nat.reduceSub]
  have readPrice {code : Nat} (is : e.terms.priceCode = some code) (fits : code < 256 ^ 1) : field e.layout 5 1 = code := by
    simp only [LineupEntry.layout, Terms.layout, is, Option.getD_some, List.append_assoc, field_skip, field_here fits,
      Nat.reduceLeDiff, Nat.reduceSub]
  have readPreview {seconds : Nat} (is : e.terms.previewSeconds = some seconds) (fits : seconds < 256 ^ 2) :
      field e.layout 8 2 = seconds := by
    simp only [LineupEntry.layout, Terms.layout, is, Option.getD_some, List.append_assoc, field_skip, field_here fits,
      Nat.reduceLeDiff, Nat.reduceSub]
  have readWindow {start stop : Nat} (is : e.terms.window = some (start, stop)) (early : start < 256 ^ 4)
      (late : stop < 256 ^ 4) : field e.layout 10 4 = start ∧ field e.layout 14 4 = stop := by
    simp only [LineupEntry.layout, Terms.layout, is, Option.map_some, Option.getD_some, List.append_assoc, field_skip,
      field_here early, field_last late, Nat.reduceLeDiff, Nat.reduceSub, and_self]
  simp only [lineupEntryOf, readService, readFlags, readRating, readCode, serviceOf_of_le high, adult, keySlot, back]
  have whole {t : Terms} (is : e.terms = t) : (⟨e.service, e.adult, e.keySlot, e.rating, t⟩ : LineupEntry) = e := by rw [← is]
  cases is : e.terms with
  | free => exact whole is
  | package number =>
    have fits : number ≤ 15 := by simpa [is, Terms.fits] using terms
    have read := readPackage (number := number) (by rw [is]; rfl) (by omega)
    simp only [Terms.code, read, min_eq_left fits]
    exact whole is
  | film code seconds =>
    have fits : seconds ≤ 600 := by simpa [is, Terms.fits] using terms
    have price := readPrice (code := code.val) (by rw [is]; rfl) (code.isLt.trans (by decide))
    have preview := readPreview (seconds := seconds) (by rw [is]; rfl) (by omega)
    simp only [Terms.code, price, preview, priceCodeOf_val, min_eq_left fits]
    exact whole is
  | event code seconds start stop =>
    obtain ⟨fits, order, last⟩ : seconds ≤ 600 ∧ start < stop ∧ stop ≤ maxCount := by simpa [is, Terms.fits] using terms
    have top : maxCount = 4294967295 := rfl
    have price := readPrice (code := code.val) (by rw [is]; rfl) (code.isLt.trans (by decide))
    have preview := readPreview (seconds := seconds) (by rw [is]; rfl) (by omega)
    obtain ⟨early, late⟩ := readWindow (start := start) (stop := stop) (by rw [is]; rfl) (by omega) (by omega)
    simp only [Terms.code, price, preview, early, late, priceCodeOf_val, min_eq_left fits]
    exact whole is

theorem priceEntryOf_layout {p : PriceEntry} (ok : p.Ok) (loaded : p.loaded = true) (code : Fin 32) :
    priceCodeOf (field (p.layout code.val) 0 1) = code ∧ priceEntryOf (p.layout code.val) = p := by
  obtain ⟨base, hoursLow, hours, allowanceLow, allowance, grace⟩ := ok
  have codeFits : code.val < 256 ^ 1 := code.isLt.trans (by decide)
  have baseFits : p.base < 256 ^ 2 := by omega
  have hoursFits : p.hours < 256 ^ 1 := by omega
  have allowanceFits : p.allowance < 256 ^ 1 := by omega
  have graceFits : p.grace < 256 ^ 1 := by omega
  simp only [priceEntryOf, PriceEntry.layout, List.append_assoc, field_skip, field_here codeFits, field_here baseFits,
    field_here hoursFits, field_here allowanceFits, field_last graceFits, Nat.reduceLeDiff, Nat.reduceSub, priceCodeOf_val,
    clamp_of_mem hoursLow hours, clamp_of_mem allowanceLow allowance, min_eq_left grace, true_and]
  rw [← loaded]

/-- The first byte of a KEY_LOAD gives back the slot and the parity (11.2). -/
theorem keyLoad_firstByte (slot : Fin 16) :
    ((BitVec.ofNat 8 (0 + slot.val)).extractLsb' 0 4).toFin = slot ∧ (BitVec.ofNat 8 (0 + slot.val)).getLsbD 7 = false ∧
      ((BitVec.ofNat 8 (128 + slot.val)).extractLsb' 0 4).toFin = slot ∧
        (BitVec.ofNat 8 (128 + slot.val)).getLsbD 7 = true := by
  revert slot
  decide

theorem keyLoadOf_layout {k : KeyLoad} (fits : k.validUntil ≤ maxCount) : keyLoadOf k.layout = k := by
  obtain ⟨slot, parity, epoch, word, validUntil⟩ := k
  have top : maxCount = 4294967295 := rfl
  have small := epoch.isLt
  have epochFits : epoch.toNat < 256 ^ 1 := by omega
  have wordFits : word.toNat < 256 ^ 8 := word.isLt
  have untilFits : validUntil < 256 ^ 4 := by
    simp only at fits
    omega
  obtain ⟨evenSlot, even, oddSlot, odd⟩ := keyLoad_firstByte slot
  have epochBack : BitVec.ofNat 6 (min epoch.toNat 63) = epoch := by
    rw [min_eq_left (by omega), BitVec.ofNat_toNat, BitVec.setWidth_eq]
  cases parity with
  | even =>
    simp only [keyLoadOf, KeyLoad.layout, List.append_assoc, field_skip, byteAt_here, field_here epochFits,
      field_here wordFits, field_last untilFits, Nat.reduceLeDiff, Nat.reduceSub, epochBack, BitVec.ofNat_toNat,
      BitVec.setWidth_eq, evenSlot, even, Bool.false_eq_true, if_false]
  | odd =>
    simp only [keyLoadOf, KeyLoad.layout, List.append_assoc, field_skip, byteAt_here, field_here epochFits,
      field_here wordFits, field_last untilFits, Nat.reduceLeDiff, Nat.reduceSub, epochBack, BitVec.ofNat_toNat,
      BitVec.setWidth_eq, oddSlot, odd, if_true]

theorem stayFlags_spec (adult pin : Bool) :
    (BitVec.ofNat 8 (adult.toNat + 2 * pin.toNat)).getLsbD 0 = adult ∧
      (BitVec.ofNat 8 (adult.toNat + 2 * pin.toNat)).getLsbD 1 = pin := by
  revert adult pin
  decide

/-- The terms of a stay are read back from the bytes they were laid out in, whatever bytes follow (11.2). -/
theorem stayTermsOf_layout_append {t : StayTerms} (ok : t.Ok) (cap : t.cap ≤ 999999) (rest : List Byte) :
    stayTermsOf (t.layout ++ rest) = t := by
  obtain ⟨limit, reset, factorLow, factor, tax, countLow, count, windowLow, window, holdLow, hold⟩ := ok
  have money : maxMoney = 9999999 := rfl
  have limitFits : t.spendLimit < 256 ^ 4 := by omega
  have capFits : t.cap < 256 ^ 4 := by omega
  have resetFits : t.capReset < 256 ^ 4 := by omega
  have factorFits : t.rateFactor < 256 ^ 2 := by omega
  have taxFits : t.tax < 256 ^ 2 := by omega
  have countFits : t.rateCount < 256 ^ 1 := by omega
  have windowFits : t.rateWindow < 256 ^ 4 := by omega
  have holdFits : t.unlockHold < 256 ^ 2 := by omega
  have packagesFits : t.packages.toNat < 256 ^ 2 := t.packages.isLt
  have packages : BitVec.ofNat 16 t.packages.toNat = t.packages := by rw [BitVec.ofNat_toNat, BitVec.setWidth_eq]
  have limitHeld : min t.spendLimit 9999999 = t.spendLimit := min_eq_left limit
  obtain ⟨adult, pin⟩ := stayFlags_spec t.adult t.pinOnPurchase
  simp only [stayTermsOf, StayTerms.layout, List.append_assoc, field_skip, byteAt_skip, byteAt_here, Nat.reduceLeDiff,
    Nat.reduceSub, field_here limitFits, field_here capFits, field_here resetFits, field_here factorFits, field_here taxFits,
    field_here countFits, field_here windowFits, field_here holdFits, field_here packagesFits, packages, limitHeld, adult, pin,
    min_eq_left cap, min_eq_left reset, clamp_of_mem factorLow factor, min_eq_left tax, clamp_of_mem countLow count,
    clamp_of_mem windowLow window, clamp_of_mem holdLow hold]

theorem length_stayTerms_layout (t : StayTerms) : t.layout.length = 26 := by simp [StayTerms.layout]

theorem checkInOf_layout {c : CheckIn} (session : c.session ≤ 65535) (terms : c.terms.Ok) (cap : c.terms.cap ≤ 999999)
    (pin : ∀ p ∈ c.pin, p ≤ 9999) (ceilings : c.ceilings.Ok) : checkInOf c.layout = c := by
  obtain ⟨age, violence, language, sexual⟩ := ceilings
  have sessionFits : c.session < 256 ^ 2 := by omega
  have pinFits := getD_pin_lt pin
  have ageFits : c.ceilings.age < 256 ^ 1 := by omega
  have violenceFits : c.ceilings.violence < 256 ^ 1 := by omega
  have languageFits : c.ceilings.language < 256 ^ 1 := by omega
  have sexualFits : c.ceilings.sexual < 256 ^ 1 := by omega
  have behind : c.layout.drop 2 = c.terms.layout ++ (pinField c.pin ++ quad c.ceilings) := by
    have split : c.layout = num 2 c.session ++ (c.terms.layout ++ (pinField c.pin ++ quad c.ceilings)) := by
      simp [CheckIn.layout]
    rw [split, List.drop_left' (length_beBytes 2 _)]
  have tail {offset len : Nat} (later : 28 ≤ offset) :
      field c.layout offset len = field (pinField c.pin ++ quad c.ceilings) (offset - 28) len := by
    have front : (num 2 c.session ++ c.terms.layout).length = 28 := by simp [length_stayTerms_layout]
    have split : c.layout = (num 2 c.session ++ c.terms.layout) ++ (pinField c.pin ++ quad c.ceilings) := by
      simp [CheckIn.layout]
    rw [split, field_behind (front.trans_le later), front]
  have readSession : field c.layout 0 2 = c.session := by
    simp only [CheckIn.layout, List.append_assoc, field_here sessionFits]
  simp only [checkInOf, behind, stayTermsOf_layout_append terms cap, readSession, quadBytes, tail, Nat.reduceLeDiff,
    Nat.reduceSub, Nat.reduceAdd, pinField, quad, List.append_assoc, field_here pinFits, field_skip, field_here ageFits,
    field_here violenceFits, field_here languageFits, field_last sexualFits, pinOf_pinField pin, min_eq_left age,
    min_eq_left violence, min_eq_left language, min_eq_left sexual, le_refl]

/-- Settles O60. -/
theorem bodiesDecodeToWhatTheyEncode : Obligations.BodiesDecodeToWhatTheyEncode := by
  refine ⟨fun e ok => ⟨lineupEntryOf_layout ok, ?_⟩, fun code p ok loaded => ?_,
    fun k fits => ⟨keyLoadOf_layout fits, ?_⟩, fun t ok cap => ⟨?_, length_stayTerms_layout t⟩,
    fun c session terms cap pin ceilings => ⟨checkInOf_layout session terms cap pin ceilings, ?_⟩⟩
  · simp [LineupEntry.layout, Terms.layout]
  · obtain ⟨codeBack, entryBack⟩ := priceEntryOf_layout ok loaded code
    exact ⟨codeBack, entryBack, by simp [PriceEntry.layout]⟩
  · simp [KeyLoad.layout]
  · have back := stayTermsOf_layout_append ok cap []
    rwa [List.append_nil] at back
  · simp [CheckIn.layout, pinField, quad, length_stayTerms_layout]

end Sys2Proof.Machine
end

section
/-! PROOFS. A scrambled cell decoded (R32, R33), a second that only meters (R121), a price and a key loaded (R17, R21, R22). -/

namespace Sys2Proof.Machine

variable {s : State}

/-! ### A decode -/

theorem State.keyFor_eq_some {service : Nat} {p : Parity} {epoch : BitVec 6} {e : LineupEntry} {slot : Fin 16}
    (entry : e ∈ s.entry service) (named : e.keySlot = some slot) (loaded : (s.half slot p).state ≠ .empty)
    (same : (s.half slot p).epoch = epoch) : s.keyFor service p epoch = some (slot, s.half slot p) := by
  have found : (s.entry service).bind (·.keySlot) = some slot := by
    rw [Option.mem_def.mp entry, Option.bind_some, named]
  rw [State.keyFor, found]
  exact if_neg (by simp [loaded, same])

/-- The half decoded from, and its partner, after a decode (R33). -/
theorem KeySlot.half_decoded (k : KeySlot) (p : Parity) :
    (k.decoded p).half p = (if (k.half p).state = .staged then { k.half p with state := .live } else k.half p) ∧
      (k.decoded p).half (partner p) = (if (k.half p).state = .staged ∧ (k.half (partner p)).state = .live
        then { k.half (partner p) with state := .spent } else k.half (partner p)) := by
  have twice : partner (partner p) = p := by cases p <;> rfl
  unfold KeySlot.decoded
  by_cases staged : (k.half p).state = .staged
  · rw [if_pos staged, if_pos staged]
    dsimp only
    by_cases live : (k.half (partner p)).state = .live
    · have kept := KeySlot.half_setHalf_partner (k.setHalf p { k.half p with state := .live }) (partner p)
        { k.half (partner p) with state := .spent }
      rw [twice] at kept
      rw [if_pos live, if_pos ⟨staged, live⟩, KeySlot.half_setHalf_self, kept, KeySlot.half_setHalf_self]
      exact ⟨rfl, rfl⟩
    · rw [if_neg live, if_neg (fun both => live both.2), KeySlot.half_setHalf_self, KeySlot.half_setHalf_partner]
      exact ⟨rfl, rfl⟩
  · rw [if_neg staged, if_neg staged, if_neg (fun both => staged both.1)]
    exact ⟨rfl, rfl⟩

theorem State.half_decodeFrom (s : State) (slot : Fin 16) (p q : Parity) :
    (s.decodeFrom slot p).half slot q = ((s.keys.get slot).decoded p).half q := by
  rw [State.half, State.decodeFrom, get_set_self]

/-- Settles O36: the decode is of the half `keyFor` finds, and `half_decoded` says what it leaves of the two. -/
theorem aScrambledCellIsDecoded : Obligations.AScrambledCellIsDecoded := by
  intro s n p service continuity epoch payload e slot powered tuned shown entry named loaded same
  have key : s.keyFor service.toNat p epoch = some (slot, s.half slot p) := State.keyFor_eq_some entry named loaded same
  refine ⟨_, exec_scrambledCell powered .., ?_⟩
  rw [State.scrambledCellAt_decoded ⟨tuned, shown⟩ key]
  obtain ⟨notices, frame⟩ := (s.decodeFrom slot p).setKeyMiss_place_frame n false
    ⟨service, .clear, continuity, epoch, transform (s.half slot p).word continuity payload⟩
  have keys : (((s.decodeFrom slot p).setKeyMiss n false).place n
      ⟨service, .clear, continuity, epoch, transform (s.half slot p).word continuity payload⟩).keys =
        (s.decodeFrom slot p).keys := by rw [frame]
  obtain ⟨own, partnerHalf⟩ := KeySlot.half_decoded (s.keys.get slot) p
  refine ⟨notices, ?_, State.out_place_self .., ?_, fun m other => ⟨?_, ?_⟩, fun k other => ?_, ?_, ?_⟩
  · rw [frame]
    rfl
  · rw [State.lane_place, State.lane_setKeyMiss_self]
    rfl
  · rw [State.lane_place, State.lane_setKeyMiss_ne _ other]
    rfl
  · rw [State.out_place_ne _ other, State.out_setKeyMiss]
    rfl
  · rw [keys]
    exact get_set_ne _ other _
  · rw [State.half, keys]
    exact (s.half_decodeFrom slot p p).trans own
  · rw [State.half, keys]
    exact (s.half_decodeFrom slot p (partner p)).trans partnerHalf

/-! ### The order of the tests -/

theorem nodup_eraseDups {α : Type} [DecidableEq α] (l : List α) : l.eraseDups.Nodup := by
  match l with
  | [] => simp
  | a :: as =>
    rw [List.eraseDups_cons]
    refine List.nodup_cons.mpr ⟨?_, nodup_eraseDups _⟩
    rw [List.mem_eraseDups]
    simp
termination_by l.length
decreasing_by
  have := List.length_filter_le (fun b => !b == a) as
  simp only [List.length_cons]
  omega

/-- Every task is taken once, in whatever order (log 4). -/
theorem takeOrder_nodup {α : Type} [DecidableEq α] (all named : List α) : (takeOrder all named).Nodup :=
  nodup_eraseDups _

theorem mem_clockTasks (task : ClockTask) : task ∈ clockTasks := by
  cases task <;> decide

/-- Tasks of which one acts, and the others leave both what stood before it and what it leaves. -/
theorem foldl_one_task {order : List ClockTask} {f : State → ClockTask → State} {acting : ClockTask} (once : order.Nodup)
    (taken : acting ∈ order) (before : ∀ x ∈ order, x ≠ acting → f s x = s)
    (after : ∀ x ∈ order, x ≠ acting → f (f s acting) x = f s acting) : order.foldl f s = f s acting := by
  induction order with
  | nil => simp at taken
  | cons x rest ih =>
    obtain ⟨notLater, later⟩ := List.nodup_cons.mp once
    rw [List.foldl_cons]
    by_cases now : x = acting
    · have still : ∀ (xs : List ClockTask), (∀ y ∈ xs, f (f s acting) y = f s acting) → xs.foldl f (f s acting) = f s acting := by
        intro xs
        induction xs with
        | nil => exact fun _ => rfl
        | cons y ys ih =>
          intro same
          rw [List.foldl_cons, same y List.mem_cons_self]
          exact ih fun z hz => same z (List.mem_cons_of_mem _ hz)
      rw [now]
      exact still rest fun y hy => after y (List.mem_cons_of_mem _ hy) fun same => notLater (now ▸ same ▸ hy)
    · rw [before x List.mem_cons_self now]
      refine ih later (List.mem_of_ne_of_mem (Ne.symm now) taken) (fun y hy => before y (List.mem_cons_of_mem _ hy))
        fun y hy => after y (List.mem_cons_of_mem _ hy)

/-! ### Tests of which none is due -/

theorem KeyHalf.tested_of_not_due {h : KeyHalf} {c : ClockUnit} (idle : h.state = .empty ∨ c.count < h.validUntil) :
    h.tested c = h := by
  refine if_neg fun ⟨_, loaded, reached⟩ => ?_
  obtain empty | later := idle
  · exact loaded empty
  · omega

theorem KeySlot.setHalf_half (k : KeySlot) (p : Parity) : k.setHalf p (k.half p) = k := by cases p <;> rfl

theorem vector_set_get {α : Type} {k : Nat} (v : Vector α k) (n : Fin k) : v.set n.val (v.get n) n.isLt = v := by
  refine Vector.ext fun i hi => ?_
  rw [Vector.getElem_set]
  split
  · next same => subst same; rfl
  · rfl

theorem State.expireHalf_of_not_due {slot : Fin 16} {p : Parity}
    (idle : (s.half slot p).state = .empty ∨ s.clock.count < (s.half slot p).validUntil) : s.expireHalf slot p = s := by
  rw [State.expireHalf, KeyHalf.tested_of_not_due idle, State.setHalf, State.half, KeySlot.setHalf_half, vector_set_get]

theorem State.expireHalves_of_not_due
    (idle : ∀ (slot : Fin 16) (p : Parity), (s.half slot p).state = .empty ∨ s.clock.count < (s.half slot p).validUntil) :
    s.expireHalves = s := by
  have still : ∀ (some : List (Fin 16)), some.foldl (fun s k => (s.expireHalf k .even).expireHalf k .odd) s = s := by
    intro some
    induction some with
    | nil => rfl
    | cons k rest ih =>
      rw [List.foldl_cons, State.expireHalf_of_not_due (idle k .even), State.expireHalf_of_not_due (idle k .odd)]
      exact ih
  exact still slots

theorem State.expireRentals_of_not_due (idle : ∀ r ∈ s.rentals, s.clock.count < r.stop) : s.expireRentals = s := by
  have none : s.rentals.filter (fun r => r.due s.clock) = [] := by
    refine List.filter_eq_nil_iff.mpr fun r held => ?_
    have later := idle r held
    simp [Rental.due, later]
  rw [State.expireRentals, none]
  rfl

theorem State.periodTest_of_not_due (idle : ∀ p ∈ s.room.period, s.clock.count < p.stop) : s.periodTest = s := by
  refine if_neg fun due => ?_
  rw [State.periodDue] at due
  cases period : s.room.period with
  | none => simp [period] at due
  | some p =>
    have later := idle p period
    simp only [period, Option.any_some, Bool.and_eq_true, decide_eq_true_eq] at due
    omega

theorem State.not_laneOnEdge
    (idle : ∀ e ∈ s.lineup.active, ∀ w ∈ e.terms.window, w.1 ≠ s.clock.count ∧ w.2 ≠ s.clock.count) (n : Screen) :
    s.laneOnEdge n = false := by
  rw [State.laneOnEdge, Option.any_eq_false]
  intro e entry
  obtain ⟨service, -, found⟩ := Option.bind_eq_some_iff.mp entry
  have listed : e ∈ s.lineup.active := List.mem_of_find?_eq_some found
  unfold LineupEntry.onEdge
  split
  · next code preview start stop terms =>
    obtain ⟨first, last⟩ := idle e listed (start, stop) (by rw [terms]; rfl)
    simp only [Bool.and_eq_false_iff, Bool.or_eq_false_iff, beq_eq_false_iff_ne]
    exact .inr ⟨Ne.symm first, Ne.symm last⟩
  · rfl

theorem State.windows_of_not_due (idle : ∀ n, s.laneOnEdge n = false) (order : List Screen) :
    order.foldl State.admitOnEdge s = s := by
  induction order with
  | nil => rfl
  | cons n rest ih =>
    rw [List.foldl_cons, State.admitOnEdge, if_neg (by simp [idle n])]
    exact ih

/-- Nothing but viewing falls due at the instant of the clock (R25, R54, R101, R123). -/
structure State.Undue (s : State) : Prop where
  rentals : ∀ r ∈ s.rentals, s.clock.count < r.stop
  period : ∀ p ∈ s.room.period, s.clock.count < p.stop
  halves : ∀ (slot : Fin 16) (p : Parity), (s.half slot p).state = .empty ∨ s.clock.count < (s.half slot p).validUntil
  windows : ∀ e ∈ s.lineup.active, ∀ w ∈ e.terms.window, w.1 ≠ s.clock.count ∧ w.2 ≠ s.clock.count

theorem State.Undue.task (undue : s.Undue) {x : ClockTask} (other : x ≠ .metering) : s.secondTask x = s := by
  cases x with
  | metering => exact absurd rfl other
  | keyHalves => exact State.expireHalves_of_not_due undue.halves
  | rentalEnds => exact State.expireRentals_of_not_due undue.rentals
  | capPeriod => exact State.periodTest_of_not_due undue.period
  | windows => exact State.windows_of_not_due (State.not_laneOnEdge undue.windows) screens
  | clockNotice => rfl

theorem State.Undue.meter (undue : s.Undue) : s.meter.Undue := by
  refine ⟨fun r held => ?_, undue.period, undue.halves, undue.windows⟩
  obtain ⟨x, was, rfl⟩ := List.mem_map.mp held
  have later := undue.rentals x was
  split
  · exact later
  · exact later

/-- Settles O30: with nothing due every task but metering leaves the state, before it and after. -/
theorem aSecondMetersTheRentalsInView : Obligations.ASecondMetersTheRentalsInView := by
  intro s order powered set low rentals period halves windows
  have counts : s.clock.counts = true := by simpa [ClockUnit.counts, set] using low
  have undue : State.Undue { s with clock := { s.clock with count := s.clock.count + 1 } } :=
    ⟨rentals, period, halves, windows⟩
  refine congrArg Host.Outcome.next ?_
  rw [State.roomSecond, if_pos counts]
  dsimp only
  rw [if_pos powered, foldl_one_task (acting := .metering) (takeOrder_nodup clockTasks order)
    (mem_takeOrder (mem_clockTasks _)) (fun x _ other => undue.task other) (fun x _ other => undue.meter.task other)]
  rfl

/-! ### Prices and keys loaded -/

/-- A broadcast kind that latches no more than flags of its own and leaves the line, the notices and its frame: taken, and what
its owner wrote stands (R168, R170). -/
theorem State.plCommand_took {u : State} {address : BitVec 10} (h : s.AddressedBy address ∨ s.BroadcastBy address)
    {kind : PlKind} (may : kind.mayBroadcast = true) {body : List Byte} (len : body.length = kind.bodyLength)
    {order : List ClockTask} (acts : s.hearFrame.plAct kind body order = (u, .none))
    (line : u.line = { s.hearFrame.line with latched := u.line.latched }) :
    ∃ t, s.plCommand kind address body order = t ∧ Took t address ∧
      t.line.latched = flagsAfter u.line.latched address ∧ t = { u with line := t.line } := by
  have notCollect : kind ≠ .collect := by
    rintro rfl
    cases may
  have heard : Heard u := by
    obtain ⟨rx, up, silence⟩ := s.hearFrame_heard
    rw [Heard, line]
    exact ⟨rx, up, silence⟩
  have silent : u.line.reply = .none := by
    rw [line]
    exact s.hearFrame_reply
  refine ⟨u.endCommand address kind, State.plCommand_eq_endCommand h may len acts,
    State.endCommand_took heard silent address notCollect, u.endCommand_latched address kind, ?_⟩
  rw [u.endCommand_eq]

theorem State.hearFrame_heardLink (s : State) : HeardLink s s.hearFrame :=
  ⟨s.hearFrame_onlyNotices, State.hearFrame_link_of_up⟩

/-- The PRICE_SET body's fields (R17). -/
theorem priceEntryOf_bytes (code hi lo hours allowance grace : Byte) :
    priceEntryOf [code, hi, lo, hours, allowance, grace] =
      ⟨hi.toNat * 256 + lo.toNat, max 1 (min hours.toNat 48), max 1 (min allowance.toNat 4), min grace.toNat 15, true⟩ := by
  simp [priceEntryOf, field, beNat, clamp]

/-- Settles O40. -/
theorem aPriceOrAKeyIsLoaded : Obligations.APriceOrAKeyIsLoaded := by
  refine ⟨fun s address code hi lo hours allowance grace h => ?_, fun s address k fits h => ?_⟩
  · obtain ⟨t, done, took, latched, frame⟩ := State.plCommand_took h (kind := .priceSet) rfl
      (body := [code, hi, lo, hours, allowance, grace]) rfl (order := []) rfl rfl
    have prices : t.prices = (s.hearFrame.setPrice (priceCodeOf code.toNat)
        (priceEntryOf [code, hi, lo, hours, allowance, grace])).prices := by
      rw [frame, ← field_first code [hi, lo, hours, allowance, grace]]
    have link : t.link = s.hearFrame.link := by rw [frame]; rfl
    refine ⟨t, congrArg Host.Outcome.next done, took, ?_, ?_, ?_, fun k => ?_⟩
    · rw [HeardLink, OnlyNotices, link]
      exact s.hearFrame_heardLink
    · rw [latched]
      exact congrArg (flagsAfter · address) s.hearFrame_latched
    · rw [frame, s.hearFrame_eq]
      rfl
    · have old : s.hearFrame.prices = s.prices := by rw [s.hearFrame_eq]
      have entry : (priceCodeOf code.toNat).val = min code.toNat 31 := rfl
      rw [prices, ← priceEntryOf_bytes code]
      by_cases own : k = priceCodeOf code.toNat
      · rw [own, if_pos entry]
        exact get_set_self ..
      · rw [if_neg (fun same => own (Fin.ext (same.trans entry.symm)))]
        exact (get_set_ne _ own _).trans (by rw [old])
  · have body : keyLoadOf k.layout = k := keyLoadOf_layout fits
    have length : k.layout.length = 14 := by simp [KeyLoad.layout]
    have acts : s.hearFrame.plAct .keyLoad k.layout [] = (s.hearFrame.loadKey k, .none) := by
      rw [State.plAct, body]
    have keys : s.hearFrame.keys = s.keys := by rw [s.hearFrame_eq]
    have refused : s.hearFrame.keyRefused k = s.keyRefused k := by
      rw [State.keyRefused, State.half, s.hearFrame_eq]
      rfl
    have line : (s.hearFrame.loadKey k).line =
        { s.hearFrame.line with latched := (s.hearFrame.loadKey k).line.latched } := by
      unfold State.loadKey
      split <;> rfl
    obtain ⟨t, done, took, latched, frame⟩ := State.plCommand_took h (kind := .keyLoad) rfl length acts line
    have link : t.link = s.hearFrame.link := by
      rw [frame]
      show (s.hearFrame.loadKey k).link = _
      unfold State.loadKey
      split <;> rfl
    have keysAfter : t.keys = (s.hearFrame.loadKey k).keys := by rw [frame]
    have heardLink : HeardLink s t := by
      rw [HeardLink, OnlyNotices, link]
      exact s.hearFrame_heardLink
    have only : t = { s with keys := t.keys, line := t.line, link := t.link } := by
      rw [keysAfter, link, frame]
      unfold State.loadKey
      split
      · rw [s.hearFrame_eq]
        rfl
      · rw [s.hearFrame_eq]
        rfl
    refine ⟨t, congrArg Host.Outcome.next done, took, heardLink, only, ?_⟩
    by_cases refuses : s.keyRefused k = true
    · have stands : s.hearFrame.loadKey k = s.hearFrame.latchKeyRefused := if_pos (refused.trans refuses)
      rw [stands] at keysAfter latched
      have same : t.keys = s.keys := keysAfter.trans keys
      refine ⟨by rw [State.half, same]; rfl, fun j _ => by rw [same], fun _ => ⟨same, ?_⟩, fun notLive early => ?_⟩
      · rw [latched, State.latchKeyRefused, State.latch, State.hearFrame_latched]
      · simp only [State.keyRefused, Bool.or_eq_true, beq_iff_eq, Bool.and_eq_true, decide_eq_true_eq] at refuses
        obtain live | ⟨set, late⟩ := refuses
        · exact absurd live notLive
        · obtain unset | early := early
          · rw [unset] at set
            cases set
          · omega
    · have stored : s.hearFrame.loadKey k =
          s.hearFrame.setHalf k.slot k.parity ⟨.staged, k.word, k.epoch, k.validUntil⟩ := if_neg (by rw [refused]; exact refuses)
      rw [stored] at keysAfter latched
      have half (q : Parity) : t.half k.slot q =
          (s.hearFrame.setHalf k.slot k.parity ⟨.staged, k.word, k.epoch, k.validUntil⟩).half k.slot q := by
        rw [State.half, keysAfter, State.half]
      refine ⟨?_, fun j other => ?_, fun why => ?_, fun _ _ => ⟨?_, ?_⟩⟩
      · rw [half, State.half_setHalf_partner, State.half, keys, State.half]
      · rw [keysAfter, State.keys_setHalf_ne _ other, keys]
      · refine absurd ?_ refuses
        simpa [State.keyRefused] using why
      · rw [half, State.half_setHalf_self]
      · rw [latched]
        exact congrArg (flagsAfter · address) s.hearFrame_latched

end Sys2Proof.Machine
end

section
/-! SUPPORT. An addressed command from its start bit to its reply (R166, R168, R170), and the folio exchange by the head of the
queue (R150 to R152). -/

namespace Sys2Proof.Machine

variable {s u : State} {address : BitVec 10}

/-! ### The answer -/

/-- The usual reply, with the head of the queue for a COLLECT (R171, R173). -/
theorem State.replyTo_eq (s : State) (address : BitVec 10) (kind : PlKind) (answer : FolioAnswer) :
    s.replyTo address.toNat kind answer =
      usualReply s address answer (if kind = .collect then s.charges.entries.head? else none) := by
  have attention : (!s.charges.entries.isEmpty) = decide (0 < s.charges.entries.length) := by
    cases s.charges.entries <;> simp
  simp only [State.replyTo, usualReply, attention, s.held_eq, State.queueLength, State.queueHead]

/-- An addressed command whose owner leaves the line as hearing left it but for flags: it is answered, and what the owner wrote
stands (R168, R170). -/
theorem exec_answered (here : s.AddressedBy address) {kind : PlKind} {body : List Byte} (len : body.length = kind.bodyLength)
    {answer : FolioAnswer} (acts : s.hearFrame.plAct kind body [] = (u, answer))
    (line : u.line = { s.hearFrame.line with latched := u.line.latched }) :
    ∃ t, exec (kind.command address body) s = .next t ∧
      Answered t address answer (if kind = .collect then u.charges.entries.head? else none) ∧
      t.line.latched = u.line.latched ∧ t = { u with line := t.line } := by
  refine ⟨u.buildReply address.toNat kind answer, ?_, ⟨?_, ?_⟩, rfl, rfl⟩
  · rw [exec_command, State.plCommand_addressed here, State.takeAddressed, if_pos len, acts]
  · obtain ⟨rx, up, silence⟩ := s.hearFrame_heard
    show u.line.rx = _ ∧ u.line.up = _ ∧ u.line.silence = _
    rw [line]
    exact ⟨rx, up, silence⟩
  · show ReplyPhase.built (u.replyTo address.toNat kind answer) = _
    rw [u.replyTo_eq]
    rfl

/-- An addressed command whose owner latches flags at most (R168, R169). -/
theorem exec_answered_latch (here : s.AddressedBy address) {kind : PlKind} (usual : kind ≠ .collect) {body : List Byte}
    (len : body.length = kind.bodyLength) {answer : FolioAnswer} {f : Latched → Latched}
    (acts : s.hearFrame.plAct kind body [] = (s.hearFrame.latch f, answer)) :
    ∃ t, exec (kind.command address body) s = .next t ∧ Answered t address answer none ∧ HeardLink s t ∧
      t.line.latched = f s.line.latched ∧ t = { s with line := t.line, link := t.link } := by
  obtain ⟨t, done, answered, latched, frame⟩ := exec_answered here len acts rfl
  rw [if_neg usual] at answered
  have link : t.link = s.hearFrame.link := by rw [frame]; rfl
  refine ⟨t, done, answered, ?_, ?_, ?_⟩
  · rw [HeardLink, OnlyNotices, link]
    exact s.hearFrame_heardLink
  · rw [latched]
    exact congrArg f s.hearFrame_latched
  · rw [link, frame, s.hearFrame_eq]
    rfl

/-- An addressed command whose owner does nothing (R168). -/
theorem exec_answered_unchanged (here : s.AddressedBy address) {kind : PlKind} (usual : kind ≠ .collect) {body : List Byte}
    (len : body.length = kind.bodyLength) {answer : FolioAnswer} (acts : s.hearFrame.plAct kind body [] = (s.hearFrame, answer)) :
    ∃ t, exec (kind.command address body) s = .next t ∧ Answered t address answer none ∧ HeardLink s t ∧
      t.line.latched = s.line.latched ∧ t = { s with line := t.line, link := t.link } :=
  exec_answered_latch here usual len (f := id) acts

theorem OnlyNotices.trans {t : State} (h : OnlyNotices s t) (k : OnlyNotices t u) : OnlyNotices s u := by
  rw [OnlyNotices] at *
  rw [k, h]

theorem State.hearFrame_room (s : State) : s.hearFrame.room = s.room := by rw [s.hearFrame_eq]

/-- What is raised after a notice of another pair leaves that notice (R189). -/
theorem Shows.raise {p q : NoticePair} {v : Snapshot} (shows : Shows s p v) (other : p ≠ q) (w : Snapshot) (fault : Bool) :
    Shows (s.raise q w fault) p v := by
  obtain ⟨n, waits, pair, snapshot⟩ := shows
  have same : n.coalesce q w = n := if_neg (fun own => other (pair.symm.trans own))
  refine ⟨n, ?_, pair, snapshot⟩
  show n ∈ s.link.noticesAfter q w fault
  unfold MediaLink.noticesAfter
  split
  · exact List.mem_map.mpr ⟨n, waits, same⟩
  · split
    · exact List.mem_append_left _ waits
    · exact waits

/-! ### The folio exchange -/

theorem State.entryOf_none {number : Nat} (absent : ∀ e ∈ s.charges.entries, e.number ≠ number) : s.entryOf number = none := by
  rw [State.entryOf, List.find?_eq_none]
  exact fun e queued => by simpa using absent e queued

theorem State.entryOf_isSome {number : Nat} (present : ∃ e ∈ s.charges.entries, e.number = number) :
    ∃ e, s.entryOf number = some e := by
  obtain ⟨e, queued, own⟩ := present
  refine Option.isSome_iff_exists.mp (List.find?_isSome.mpr ⟨e, queued, ?_⟩)
  simpa using own

theorem State.confirmCharge_stale {number : Nat} (absent : ∀ e ∈ s.charges.entries, e.number ≠ number) :
    s.confirmCharge number = (s, .stale) := by
  rw [State.confirmCharge, State.entryOf_none absent]

theorem State.declineCharge_stale {number : Nat} (absent : ∀ e ∈ s.charges.entries, e.number ≠ number) :
    s.declineCharge number = (s, .stale) := by
  rw [State.declineCharge, State.entryOf_none absent]

section Head

variable {number : Nat} {e : QueueEntry} {rest : List QueueEntry} (entries : s.charges.entries = e :: rest)
include entries

theorem State.confirmCharge_head (own : e.number = number) (offered : e.state = .offered) :
    s.confirmCharge number = ((s.setEntries rest).closeIfEmpty, .none) := by
  obtain ⟨x, found⟩ := State.entryOf_isSome (s := s) (number := number) ⟨e, by simp [entries], own⟩
  rw [State.confirmCharge, found, entries]
  exact if_pos ⟨own, offered⟩

theorem State.confirmCharge_notHead (present : ∃ x ∈ s.charges.entries, x.number = number)
    (other : e.number ≠ number ∨ e.state ≠ .offered) : s.confirmCharge number = (s, .notHead) := by
  obtain ⟨x, found⟩ := State.entryOf_isSome present
  rw [State.confirmCharge, found, entries]
  exact if_neg (by rintro ⟨own, offered⟩; exact other.elim (fun ne => ne own) (fun ne => ne offered))

theorem State.declineCharge_head (own : e.number = number) (offered : e.state = .offered) (charge : e.kind = .charge) :
    s.declineCharge number = ((s.setEntries ({ e with state := .declined } :: rest)).raiseBilling true, .none) := by
  obtain ⟨x, found⟩ := State.entryOf_isSome (s := s) (number := number) ⟨e, by simp [entries], own⟩
  rw [State.declineCharge, found, entries]
  dsimp only
  rw [if_neg (fun both => both.2 charge), if_pos ⟨own, offered⟩]

theorem State.declineCharge_credit (own : e.number = number) {n : Nat} (credit : e.kind = .credit n) :
    s.declineCharge number = (s.latchMessageError, .none) := by
  obtain ⟨x, found⟩ := State.entryOf_isSome (s := s) (number := number) ⟨e, by simp [entries], own⟩
  rw [State.declineCharge, found, entries]
  exact if_pos ⟨own, by simp [credit]⟩

theorem State.declineCharge_notHead (present : ∃ x ∈ s.charges.entries, x.number = number)
    (other : e.number ≠ number ∨ (e.state ≠ .offered ∧ e.kind = .charge)) : s.declineCharge number = (s, .notHead) := by
  obtain ⟨x, found⟩ := State.entryOf_isSome present
  rw [State.declineCharge, found, entries]
  dsimp only
  rw [if_neg, if_neg]
  · rintro ⟨own, offered⟩
    exact other.elim (fun ne => ne own) (fun both => both.1 offered)
  · rintro ⟨own, credit⟩
    exact other.elim (fun ne => ne own) (fun both => credit both.2)

end Head

/-- The queue with a WAITING head OFFERED (R150). -/
def offeredQueue : List QueueEntry → List QueueEntry
  | [] => []
  | e :: rest => (if e.state = .waiting then { e with state := .offered } else e) :: rest

theorem State.collectHead_eq (s : State) : s.collectHead = s.setEntries (offeredQueue s.charges.entries) := by
  unfold State.collectHead
  split
  · next none =>
    rw [none, State.setEntries, offeredQueue, ← none]
  · next e rest entries =>
    rw [entries, offeredQueue]
    split
    · rfl
    · rw [State.setEntries, ← entries]

theorem State.closeIfEmpty_line (s : State) : s.closeIfEmpty.line = s.line := by
  unfold State.closeIfEmpty
  split <;> rfl

/-- The room after a queue may have emptied: VACANT where it was CLOSING and nothing is left, and nothing else but the notice
(R97). -/
theorem State.closeIfEmpty_eq (s : State) : s.closeIfEmpty = { s with
    room := { s.room with
      occupancy := if s.room.occupancy = .closing ∧ s.charges.entries = [] then .vacant else s.room.occupancy }
    link := s.closeIfEmpty.link } ∧ OnlyNotices s s.closeIfEmpty := by
  unfold State.closeIfEmpty
  split <;> exact ⟨rfl, rfl⟩

theorem State.closeIfEmpty_shows (closing : s.room.occupancy = .closing) (empty : s.charges.entries = []) :
    Shows s.closeIfEmpty .room (.room s.closeIfEmpty.roomView) := by
  rw [State.closeIfEmpty, if_pos ⟨closing, empty⟩]
  exact State.raise_shows_of_every (p := .room) rfl _ _

end Sys2Proof.Machine
end

section
/-! PROOFS. The folio exchange: poll, COLLECT, CONFIRM and DECLINE (R97, R150 to R152, R156, R174). -/

namespace Sys2Proof.Machine

variable {s : State} {address : BitVec 10}

/-- A COLLECT offers a WAITING head and carries the head (R150). -/
theorem exec_collect (here : s.AddressedBy address) :
    ∃ t, exec (.collect address []) s = .next t ∧ Answered t address .none t.charges.entries.head? ∧ HeardLink s t ∧
      t.line.latched = s.line.latched ∧
      t.charges.entries = offeredQueue s.charges.entries ∧
      t = { s with charges := { s.charges with entries := t.charges.entries }, line := t.line, link := t.link } := by
  have collected := s.hearFrame.collectHead_eq
  rw [s.hearFrame_charges] at collected
  obtain ⟨t, done, answered, latched, frame⟩ := exec_answered here (kind := .collect) (body := []) rfl
    (u := s.hearFrame.collectHead) (answer := .none) rfl (by rw [collected]; rfl)
  have charges : t.charges = s.hearFrame.collectHead.charges := by rw [frame]
  have link : t.link = s.hearFrame.link := by rw [frame, collected]; rfl
  refine ⟨t, done, ?_, ?_, ?_, ?_, ?_⟩
  · rw [charges]
    exact answered
  · rw [HeardLink, OnlyNotices, link]
    exact s.hearFrame_heardLink
  · rw [latched, collected]
    exact s.hearFrame_latched
  · rw [charges, collected]
    rfl
  · rw [charges, link, frame, collected, s.hearFrame_eq]
    rfl

/-- A CONFIRM of the OFFERED head removes it, and a CLOSING room whose queue empties is VACANT (R97, R151). -/
theorem exec_confirm_head (here : s.AddressedBy address) {hi lo : Byte} {e : QueueEntry} {rest : List QueueEntry}
    (entries : s.charges.entries = e :: rest) (own : e.number = hi.toNat * 256 + lo.toNat) (offered : e.state = .offered) :
    ∃ t, exec (.confirm address [hi, lo]) s = .next t ∧ Answered t address .none none ∧
      t.line.latched = s.line.latched ∧ OnlyNotices s t ∧
      t = { s with
        charges := { s.charges with entries := rest }, line := t.line, link := t.link
        room := { s.room with occupancy := if s.room.occupancy = .closing ∧ rest = [] then .vacant
          else s.room.occupancy } } ∧
      (s.room.occupancy = .closing → rest = [] → Shows t .room (.room t.roomView)) := by
  have acts : s.hearFrame.plAct .confirm [hi, lo] [] = ((s.hearFrame.setEntries rest).closeIfEmpty, .none) := by
    rw [State.plAct, field_two]
    exact State.confirmCharge_head (s.hearFrame_charges ▸ entries) own offered
  obtain ⟨closed, notices⟩ := (s.hearFrame.setEntries rest).closeIfEmpty_eq
  obtain ⟨t, done, answered, latched, frame⟩ := exec_answered here (kind := .confirm) rfl acts
    (by rw [State.closeIfEmpty_line]; rfl)
  have link : t.link = (s.hearFrame.setEntries rest).closeIfEmpty.link := by rw [frame]
  refine ⟨t, done, answered, ?_, ?_, ?_, fun closing empty => ?_⟩
  · rw [latched, State.closeIfEmpty_line]
    exact s.hearFrame_latched
  · rw [OnlyNotices, link]
    exact s.hearFrame_onlyNotices.trans (u := (s.hearFrame.setEntries rest).closeIfEmpty) notices
  · rw [link, frame, closed]
    generalize (s.hearFrame.setEntries rest).closeIfEmpty.link = l
    rw [State.setEntries, s.hearFrame_eq]
  · have shown := State.closeIfEmpty_shows (s := s.hearFrame.setEntries rest)
      ((congrArg (·.occupancy) s.hearFrame_room).trans closing) empty
    rw [frame]
    exact shown

/-- A DECLINE of an OFFERED CHARGE head makes it DECLINED, and the hold is reported (R152, R156). -/
theorem exec_decline_head (here : s.AddressedBy address) {hi lo : Byte} {e : QueueEntry} {rest : List QueueEntry}
    (entries : s.charges.entries = e :: rest) (own : e.number = hi.toNat * 256 + lo.toNat) (offered : e.state = .offered)
    (charge : e.kind = .charge) :
    ∃ t, exec (.decline address [hi, lo]) s = .next t ∧ Answered t address .none none ∧
      t.line.latched = s.line.latched ∧ OnlyNotices s t ∧
      t = { s with
        charges := { s.charges with entries := { e with state := .declined } :: rest }, line := t.line, link := t.link } ∧
      Shows t .billing (.billing (some ⟨e.number, e.session, e.service, e.amount⟩) (rest.length + 1)) := by
  have acts : s.hearFrame.plAct .decline [hi, lo] [] =
      ((s.hearFrame.setEntries ({ e with state := .declined } :: rest)).raiseBilling true, .none) := by
    rw [State.plAct, field_two]
    exact State.declineCharge_head (s.hearFrame_charges ▸ entries) own offered charge
  obtain ⟨t, done, answered, latched, frame⟩ := exec_answered here (kind := .decline) rfl acts rfl
  refine ⟨t, done, answered, latched.trans s.hearFrame_latched, ?_, ?_, ?_⟩
  · have link : t.link = ((s.hearFrame.setEntries ({ e with state := .declined } :: rest)).raiseBilling true).link := by
      rw [frame]
    rw [OnlyNotices, link]
    exact s.hearFrame_onlyNotices.trans (u := (s.hearFrame.setEntries _).raiseBilling true) rfl
  · rw [frame, State.raiseBilling, State.raise, State.setEntries, s.hearFrame_eq]
  · rw [frame]
    exact State.raise_shows_of_every (s := s.hearFrame.setEntries ({ e with state := .declined } :: rest)) (p := .billing)
      rfl _ _

/-- Settles O45. -/
theorem theFolioCollectsConfirmsAndDeclines : Obligations.TheFolioCollectsConfirmsAndDeclines := by
  intro s address hi lo here
  have queue := s.hearFrame_charges
  refine ⟨exec_answered_unchanged here (kind := .statusPoll) (by decide) (body := []) rfl rfl, ?_,
    fun absent c row => ?_, fun e rest entries own offered => ⟨exec_confirm_head here entries own offered,
      exec_decline_head here entries own offered⟩, fun e rest entries present other c row => ?_,
    fun e rest n entries own credit => ?_⟩
  · obtain ⟨t, done, answered, link, latched, entries, frame⟩ := exec_collect here
    refine ⟨t, done, answered, link, latched, entries.trans ?_, frame⟩
    generalize s.charges.entries = queue
    cases queue <;> rfl
  · obtain rfl | rfl := List.mem_pair.mp row
    · exact exec_answered_unchanged here (kind := .confirm) (by decide) (body := [hi, lo]) rfl
        (by rw [State.plAct, field_two]; exact State.confirmCharge_stale (queue ▸ absent))
    · exact exec_answered_unchanged here (kind := .decline) (by decide) (body := [hi, lo]) rfl
        (by rw [State.plAct, field_two]; exact State.declineCharge_stale (queue ▸ absent))
  · obtain rfl | rfl := List.mem_pair.mp row
    · exact exec_answered_unchanged here (kind := .confirm) (by decide) (body := [hi, lo]) rfl
        (by rw [State.plAct, field_two]
            exact State.confirmCharge_notHead (queue ▸ entries) (queue ▸ present) (other.imp_right (·.1)))
    · exact exec_answered_unchanged here (kind := .decline) (by decide) (body := [hi, lo]) rfl
        (by rw [State.plAct, field_two]
            exact State.declineCharge_notHead (queue ▸ entries) (queue ▸ present) other)
  · exact exec_answered_latch here (kind := .decline) (by decide) (body := [hi, lo]) rfl
      (by rw [State.plAct, field_two]; exact State.declineCharge_credit (queue ▸ entries) own credit)

end Sys2Proof.Machine
end

section
/-! SUPPORT. Frames: the blocks that admissions and the events around them never write, and the end of a rental whose seats are in
order, exactly (R122, R123). -/

namespace Sys2Proof.Machine

variable {s t u : State} {n m : Screen}

/-! ### Frames -/

/-- The blocks that stand through admissions, stays and the folio: all but the lanes, the lock, the room, rentals, charges and the
two links. -/
def Frame (s t : State) : Prop :=
  t.powered = s.powered ∧ t.lastStart = s.lastStart ∧ t.clock = s.clock ∧ t.lineup = s.lineup ∧ t.prices = s.prices ∧
    t.keys = s.keys ∧ t.outs = s.outs ∧ t.pending = s.pending

theorem Frame.refl (s : State) : Frame s s := ⟨rfl, rfl, rfl, rfl, rfl, rfl, rfl, rfl⟩

theorem Frame.trans (h : Frame s t) (k : Frame t u) : Frame s u := by
  obtain ⟨h1, h2, h3, h4, h5, h6, h7, h8⟩ := h
  obtain ⟨k1, k2, k3, k4, k5, k6, k7, k8⟩ := k
  exact ⟨k1.trans h1, k2.trans h2, k3.trans h3, k4.trans h4, k5.trans h5, k6.trans h6, k7.trans h7, k8.trans h8⟩

theorem OnlyViewing.frame (h : OnlyViewing s t) : Frame s t := by
  obtain ⟨only, -⟩ := h
  rw [only]
  exact ⟨rfl, rfl, rfl, rfl, rfl, rfl, rfl, rfl⟩

/-- What an admission reaches, block by block. -/
theorem OnlyViewing.stands (h : OnlyViewing s t) :
    t.lock = s.lock ∧ t.charges = s.charges ∧ t.line = s.line ∧
      t.room = { s.room with previewUsed := t.room.previewUsed } ∧ OnlyNotices s t := by
  obtain ⟨only, notices⟩ := h
  refine ⟨?_, ?_, ?_, ?_, notices⟩ <;> rw [only]

theorem Frame.onlyViewing (h : Frame s t) (lock : t.lock = s.lock) (charges : t.charges = s.charges) (line : t.line = s.line)
    (room : t.room = { s.room with previewUsed := t.room.previewUsed }) (notices : OnlyNotices s t) : OnlyViewing s t := by
  refine ⟨?_, notices⟩
  obtain ⟨powered, lastStart, clock, lineup, prices, keys, outs, pending⟩ := h
  obtain ⟨⟩ := t
  dsimp only at *
  subst powered lastStart clock lineup prices keys outs pending lock charges line
  rw [← room]

theorem State.hearFrame_frame (s : State) : Frame s s.hearFrame := by
  rw [s.hearFrame_eq]
  exact ⟨rfl, rfl, rfl, rfl, rfl, rfl, rfl, rfl⟩

/-! ### A lane whose service has no rental -/

theorem State.handOn_of_free {before : Lane} (free : before.standing ≠ .holding) : s.handOn before = s := by
  unfold State.handOn
  split
  · next holding _ => exact absurd holding free
  · rfl

/-- Without a standing to give up, an outcome is all that an admission does (R51, R55). -/
theorem State.admitAs_of_free (free : (s.lane n).standing ≠ .holding) (v : Verdict) : s.admitAs n v = s.settle n v := by
  unfold State.admitAs
  split
  · have handed := State.handOn_of_free (s := s.settle n v) free
    exact handed
  · rfl

/-- A lane whose service has no rental is admitted without a seat, and no rental and no other lane changes (R49, R50). -/
theorem State.admitAs_unrented {v : Verdict} (suits : v.Suits s n) (free : (s.lane n).standing = .none)
    (absent : s.tunedRental n = none) :
    (s.admitAs n v).rentals = s.rentals ∧ (∀ m ≠ n, (s.admitAs n v).lane m = s.lane m) ∧
      ((s.admitAs n v).lane n).standing = .none := by
  have unrented : ∀ r ∈ s.rentals, (s.lane n).tuned ≠ some r.service := by
    intro r held own
    rw [State.tunedRental, own, Option.bind_some] at absent
    exact absurd (List.find?_eq_none.mp absent r held) (by simp)
  rw [State.admitAs_of_free (by simp [free])]
  refine ⟨?_, fun m other => State.lane_settle_ne s other v, ?_⟩
  · rw [State.rentals_settle]
    exact (List.map_congr_left fun r held => if_neg (unrented r held)).trans (List.map_id _)
  · rw [State.standing_settle]
    have noRental {r : Rental} (rental : s.tunedRental n = some r) : False := by simp [absent] at rental
    cases v with
    | off | blank | openFree | previewStart => rfl
    | previewKeep => exact free
    | seatKeep =>
      obtain ⟨-, -, r, rental⟩ := suits
      exact (noRental rental).elim
    | seatGrant =>
      obtain ⟨-, -, r, rental, -⟩ := suits
      exact (noRental rental).elim
    | waitJoin | waitKeep =>
      obtain ⟨-, r, rental⟩ := suits
      exact (noRental rental).elim

theorem State.tunedRental_congr (tuned : (t.lane n).tuned = (s.lane n).tuned) (rentals : t.rentals = s.rentals) :
    t.tunedRental n = s.tunedRental n := by
  have rentalOf : t.rentalOf = s.rentalOf := funext fun service => by rw [State.rentalOf, rentals]; rfl
  rw [State.tunedRental, tuned, rentalOf]
  rfl

/-- So are several such lanes (R53). -/
theorem Admits.unrented {order : List Screen} (h : Admits order s t)
    (free : ∀ n ∈ order, (s.lane n).standing = .none ∧ s.tunedRental n = none) :
    t.rentals = s.rentals ∧ (∀ m ∉ order, t.lane m = s.lane m) ∧
      ∀ m, (s.lane m).standing = .none → (t.lane m).standing = .none := by
  induction h with
  | nil s => exact ⟨rfl, fun _ _ => rfl, fun _ same => same⟩
  | @cons s t n v order suits rest ih =>
    obtain ⟨own, absent⟩ := free n List.mem_cons_self
    obtain ⟨rentals, others, standing⟩ := State.admitAs_unrented suits own absent
    have keeps : ∀ m, (s.lane m).standing = .none → ((s.admitAs n v).lane m).standing = .none := by
      intro m none
      by_cases same : m = n
      · rw [same, standing]
      · rw [others m same, none]
    obtain ⟨rentals', others', standing'⟩ := ih fun m later => by
      obtain ⟨none, unrented⟩ := free m (List.mem_cons_of_mem _ later)
      exact ⟨keeps m none, (State.tunedRental_congr ((Viewing.admitAs s n v).tuned m) rentals).trans unrented⟩
    refine ⟨rentals'.trans rentals, fun m out => ?_, fun m none => standing' m (keeps m none)⟩
    obtain ⟨other, later⟩ := not_or.mp (List.mem_cons.not.mp out)
    exact (others' m later).trans (others m other)

/-! ### The end of a rental, exactly -/

/-- The law of the seats needs nothing of what the lanes show of the line-up. -/
theorem State.SeatsOk.seatLaw (ok : s.SeatsOk) : s.SeatLaw := by
  have blind : State.ViewingOk { s with lineup := { s.lineup with active := [] } } :=
    ⟨ok, fun n _ e entry => by
      obtain ⟨service, -, found⟩ := Option.bind_eq_some_iff.mp entry
      cases found⟩
  exact (State.viewingOk_iff.mp blind).1.congr (fun _ => ⟨rfl, rfl⟩) rfl

theorem State.rentalAt_of_mem (indices : (s.rentals.map (·.index)).Nodup) {r : Rental} (held : r ∈ s.rentals) :
    s.rentalAt r.index = some r := by
  obtain ⟨x, found⟩ := Option.isSome_iff_exists.mp (List.find?_isSome.mpr ⟨r, held, by simp⟩ : (s.rentalAt r.index).isSome)
  have index := Moves.index_of_rentalAt found
  rwa [List.inj_on_of_nodup_map indices (List.mem_of_find?_eq_some found) held index] at found

/-- A rental ends: it leaves the list and nothing else there changes, the lanes of its service have no standing left, and the
others are as they were (R122). -/
theorem State.SeatLaw.endRental (law : s.SeatLaw) {r : Rental} (held : r ∈ s.rentals) :
    (s.endRental r.index).rentals = s.rentals.filter (fun x => x.index ≠ r.index) ∧
      (∀ n, (s.lane n).tuned = some r.service → ((s.endRental r.index).lane n).standing = .none) ∧
      ∀ n, (s.lane n).tuned ≠ some r.service → (s.endRental r.index).lane n = s.lane n := by
  have found := State.rentalAt_of_mem law.indices held
  obtain ⟨left, others⟩ := law.unrent held
  have tuned (n : Screen) : ((s.unrent r).lane n).tuned = (s.lane n).tuned := by
    rw [s.lane_unrent]
    split <;> rfl
  have absent (n : Screen) (own : (s.lane n).tuned = some r.service) : (s.unrent r).tunedRental n = none := by
    rw [State.tunedRental, tuned, own, Option.bind_some, State.rentalOf, List.find?_eq_none]
    intro x among same
    rw [s.rentals_unrent, List.mem_filter] at among
    obtain ⟨was, index⟩ := among
    have one := law.unique was held (by simpa using same)
    simp [one] at index
  have free (n : Screen) (own : (s.lane n).tuned = some r.service) : ((s.unrent r).lane n).standing = .none :=
    (left.placed n).standing_of_unrented (absent n own)
  have admits := Admits.admitTuned r.service screens (s.unrent r)
  obtain ⟨rentals, apart, standing⟩ := admits.unrented fun n named => by
    have own := (tuned n).symm.trans (mem_tunedScreens.mp named)
    exact ⟨free n own, absent n own⟩
  rw [State.endRental_eq found]
  generalize (s.unrent r).admitTuned r.service screens = t at rentals apart standing ⊢
  refine ⟨rentals.trans (s.rentals_unrent r), fun n own => standing n (free n own), fun n other => ?_⟩
  have out := apart n fun named => other ((tuned n).symm.trans (mem_tunedScreens.mp named))
  exact out.trans (others n other)

/-- The RENTALS notice of an end shows the list as it then is (R122, R129). -/
theorem State.endRental_shows {index : Fin 8} (held : (s.rentalAt index).isSome) (mode : s.link.modes.rentals = .every) :
    Shows (s.endRental index) .rentals
      (.rentals ((s.endRental index).rentals.map (fun x => ⟨x.index, x.service, x.stop⟩))) := by
  obtain ⟨r, found⟩ := Option.isSome_iff_exists.mp held
  have view : Viewing ({ s with rentals := s.rentals.filter (fun x => x.index ≠ r.index) } : State)
      ((s.unrent r).admitTuned r.service screens) := (Viewing.clearStandings _ _).trans (.admitTuned _ _ _)
  have modes : ((s.unrent r).admitTuned r.service screens).link.modes = s.link.modes := by
    obtain ⟨-, -, -, -, notices⟩ := view.only.stands
    rw [notices]
  rw [State.endRental_eq found]
  generalize (s.unrent r).admitTuned r.service screens = t at modes ⊢
  refine State.raise_shows_of_every (p := .rentals) ?_ _ _
  exact (congrArg (·.rentals) modes).trans mode

end Sys2Proof.Machine
end

section
/-! PROOFS. The settlement of a declined charge (R97, R99, R139, R140, R153, R154). -/

namespace Sys2Proof.Machine

variable {s t : State} {address : BitVec 10}

/-! ### The steps of a settlement -/

theorem State.declinedHead_some {e : QueueEntry} {rest : List QueueEntry} (entries : s.charges.entries = e :: rest)
    (declined : e.state = .declined) : s.declinedHead e.number = some e := by
  have held : s.heldHead = some e := by
    rw [State.heldHead, State.queueHead, entries]
    exact if_pos declined
  rw [State.declinedHead, held]
  exact if_pos rfl

theorem State.declinedHead_none {number : Nat}
    (other : ∀ e ∈ s.charges.entries.head?, e.number ≠ number ∨ e.state ≠ .declined) : s.declinedHead number = none := by
  unfold State.declinedHead State.heldHead State.queueHead
  cases head : s.charges.entries.head? with
  | none => rfl
  | some e =>
    by_cases declined : e.state = .declined
    · have ne := (other e head).resolve_right fun ne => ne declined
      simp [declined, ne]
    · simp [declined]

theorem State.withTotals_eq (s : State) (r : RoomRecord) :
    s.withTotals r = { s with room := r, link := (s.withTotals r).link } ∧ OnlyNotices s (s.withTotals r) := by
  unfold State.withTotals
  dsimp only
  split <;> exact ⟨rfl, rfl⟩

/-- What the head's settlement leaves in the queue: the entries behind it but the CREDITs that refer to it (R153). -/
def settledQueue (number : Nat) (rest : List QueueEntry) : List QueueEntry :=
  rest.filter (fun x => x.refersTo ≠ some number)

/-- The sum of the CREDITs that refer to the head (R140). -/
def creditsOf (number : Nat) (rest : List QueueEntry) : Nat :=
  ((rest.filter (fun x => x.refersTo = some number)).map (·.amount)).sum

/-- Steps 1 to 3 of a settlement write the queue and the totals (R140, R153). -/
theorem State.settleCharge_eq {e : QueueEntry} {rest : List QueueEntry} (entries : s.charges.entries = e :: rest) :
    s.settleCharge e = { s with
      charges := { s.charges with entries := settledQueue e.number rest }
      room := s.room.applyDifference (creditsOf e.number rest) e.amount
      link := (s.settleCharge e).link } ∧ OnlyNotices s (s.settleCharge e) := by
  have behind : s.charges.entries.drop 1 = rest := by rw [entries, List.drop_succ_cons, List.drop_zero]
  have kept : rest.filter (fun x => x.refersTo != some e.number) = settledQueue e.number rest :=
    List.filter_congr fun x _ => by by_cases same : x.refersTo = some e.number <;> simp [same]
  have credits : rest.filter (fun x => x.refersTo == some e.number) = rest.filter (fun x => x.refersTo = some e.number) :=
    List.filter_congr fun x _ => by by_cases same : x.refersTo = some e.number <;> simp [same]
  have steps : s.settleCharge e = (s.setEntries (settledQueue e.number rest)).withTotals
      (s.room.applyDifference (creditsOf e.number rest) e.amount) := by
    rw [State.settleCharge, behind, kept, credits]
    rfl
  obtain ⟨only, notices⟩ := (s.setEntries (settledQueue e.number rest)).withTotals_eq
    (s.room.applyDifference (creditsOf e.number rest) e.amount)
  rw [steps]
  exact ⟨only, notices⟩

/-- The one difference applied to each total: floored, saturated and stopped at a cap (R99, R139, R140). -/
theorem RoomRecord.applyDifference_eq {r : RoomRecord} (ok : r.Ok) (credits charge : Nat) :
    r.applyDifference credits charge = { r with
      spend := min (r.spend + credits - charge) 9999999
      billed := if r.terms.cap = 0 ∨ credits ≤ charge then min (r.billed + credits - charge) 9999999
        else min (min (r.billed + credits - charge) 9999999) r.terms.cap } := by
  obtain ⟨-, -, -, -, spend, billed, -⟩ := ok
  have money : maxMoney = 9999999 := rfl
  unfold RoomRecord.applyDifference
  split
  · next less =>
    have lower : r.spend - (charge - credits) = min (r.spend + credits - charge) 9999999 := by omega
    have lower' : r.billed - (charge - credits) = min (r.billed + credits - charge) 9999999 := by omega
    rw [if_pos (.inr less.le), RoomRecord.fall, lower, lower']
  · split
    · next more =>
      have higher : r.spend + (credits - charge) = r.spend + credits - charge := by omega
      have higher' : r.billed + (credits - charge) = r.billed + credits - charge := by omega
      have cap : (r.terms.cap = 0 ∨ credits ≤ charge) ↔ r.terms.cap = 0 := or_iff_left more.not_ge
      simp only [RoomRecord.rise, spendRise, billedRise, higher, higher', cap, money]
    · have same : credits = charge := by omega
      have spend' : min (r.spend + credits - charge) 9999999 = r.spend := by omega
      have billed' : min (r.billed + credits - charge) 9999999 = r.billed := by omega
      rw [if_pos (.inr same.le), spend', billed']

/-- Steps 5 and 6 of a settlement write the occupancy at most (R97, R153). -/
theorem State.endHold_eq (s : State) : s.endHold = { s with
    room := { s.room with
      occupancy := if s.room.occupancy = .closing ∧ s.charges.entries = [] then .vacant else s.room.occupancy }
    link := s.endHold.link } ∧ OnlyNotices s s.endHold := by
  obtain ⟨closed, notices⟩ := (s.raiseBilling false).closeIfEmpty_eq
  exact ⟨closed, OnlyNotices.trans (t := s.raiseBilling false) rfl notices⟩

/-- The end of a hold is reported, with no hold left behind a head that is not DECLINED (R156). -/
theorem State.endHold_shows (free : ∀ x ∈ s.charges.entries, x.state ≠ .declined) :
    Shows s.endHold .billing (.billing none s.charges.entries.length) := by
  have noHold : s.heldHead = none := by
    unfold State.heldHead State.queueHead
    cases head : s.charges.entries.head? with
    | none => rfl
    | some e => exact if_neg (free e (List.mem_of_mem_head? head))
  have view : s.billingView = .billing none s.charges.entries.length := by
    rw [State.billingView, noHold]
    rfl
  have raised : Shows (s.raiseBilling false) .billing (.billing none s.charges.entries.length) := by
    rw [State.raiseBilling, view]
    exact State.raise_shows_of_every (p := .billing) rfl _ _
  unfold State.endHold State.closeIfEmpty
  split
  · exact Shows.raise (s := { s.raiseBilling false with room := { (s.raiseBilling false).room with occupancy := .vacant } })
      raised (by decide) _ _
  · exact raised

/-- The rental of a charge number ends: its seats, previews and notices at most change besides the list (R122, R154). -/
theorem State.endRentalOfCharge_onlyViewing (s : State) (number : Nat) : OnlyViewing s (s.endRentalOfCharge number) := by
  unfold State.endRentalOfCharge
  split
  · next r _ =>
    cases held : s.rentalAt r.index with
    | none =>
      rw [s.endRental_none r.index held]
      exact .refl s
    | some x => exact (s.endRental_view r.index (by rw [held]; rfl)).1
  · exact .refl s

theorem inj_on_of_nodup_filterMap {α β : Type} {f : α → Option β} {l : List α} (once : (l.filterMap f).Nodup) {x y : α}
    (hx : x ∈ l) (hy : y ∈ l) {b : β} (own : f x = some b) (own' : f y = some b) : x = y := by
  induction l with
  | nil => simp at hx
  | cons a as ih =>
    have later {z : α} (among : z ∈ as) (value : f z = some b) : b ∈ as.filterMap f := List.mem_filterMap.mpr ⟨z, among, value⟩
    have tail : (as.filterMap f).Nodup := ((List.sublist_cons_self a as).filterMap f).nodup once
    have apart (head : f a = some b) : b ∉ as.filterMap f := by
      rw [List.filterMap_cons_some head] at once
      exact (List.nodup_cons.mp once).1
    obtain first | behind := List.mem_cons.mp hx
    · obtain first' | behind' := List.mem_cons.mp hy
      · rw [first, first']
      · exact absurd (later behind' own') (apart (first ▸ own))
    · obtain first' | behind' := List.mem_cons.mp hy
      · exact absurd (later behind own) (apart (first' ▸ own'))
      · exact ih tail behind behind'

/-- With the seats in order the rental of the number leaves the list and nothing else there changes (R154). -/
theorem State.SeatLaw.rentals_endRentalOfCharge (law : s.SeatLaw) (charges : (s.rentals.filterMap (·.charge)).Nodup)
    (number : Nat) : (s.endRentalOfCharge number).rentals = s.rentals.filter (fun r => r.charge ≠ some number) := by
  unfold State.endRentalOfCharge
  split
  · next r found =>
    have held : r ∈ s.rentals := List.mem_of_find?_eq_some found
    have own : r.charge = some number := by simpa using List.find?_some found
    obtain ⟨rentals, -⟩ := law.endRental held
    rw [rentals]
    refine List.filter_congr fun x among => ?_
    have same : x.index = r.index ↔ x.charge = some number :=
      ⟨fun index => by rw [List.inj_on_of_nodup_map law.indices among held index, own],
        fun charge => by rw [inj_on_of_nodup_filterMap charges among held charge own]⟩
    simp [same]
  · next none =>
    refine (List.filter_eq_self.mpr fun r held => ?_).symm
    simpa using List.find?_eq_none.mp none r held

/-! ### WAIVE and REVOKE -/

/-- The room that a settlement leaves (R97, R140). -/
def settledRoom (r : RoomRecord) (number amount : Nat) (rest : List QueueEntry) : RoomRecord :=
  { r.applyDifference (creditsOf number rest) amount with
    occupancy := if r.occupancy = .closing ∧ settledQueue number rest = [] then .vacant else r.occupancy }

theorem RoomRecord.applyDifference_occupancy (r : RoomRecord) (credits charge : Nat) :
    (r.applyDifference credits charge).occupancy = r.occupancy := by
  unfold RoomRecord.applyDifference
  split
  · rfl
  · split <;> rfl

/-- What a settlement leaves, whatever is done to the rental in between by what an admission may reach (R153, R154). -/
theorem State.settled_eq {u : State} {e : QueueEntry} {rest : List QueueEntry} (entries : s.charges.entries = e :: rest)
    (between : OnlyViewing (s.settleCharge e) u) :
    Frame s u.endHold ∧ u.endHold.lock = s.lock ∧ u.endHold.line = s.line ∧ OnlyNotices s u.endHold ∧
      u.endHold.charges = { s.charges with entries := settledQueue e.number rest } ∧
      u.endHold.lanes = u.lanes ∧ u.endHold.rentals = u.rentals ∧
      u.endHold.room = { settledRoom s.room e.number e.amount rest with previewUsed := u.room.previewUsed } := by
  obtain ⟨settled, settledNotices⟩ := State.settleCharge_eq entries
  obtain ⟨lock, charges, line, room, notices⟩ := between.stands
  have first : Frame s (s.settleCharge e) := by
    rw [settled]
    exact .refl s
  have middle := between.frame
  obtain ⟨held, heldNotices⟩ := u.endHold_eq
  have queue : u.charges = { s.charges with entries := settledQueue e.number rest } := by rw [charges, settled]
  have roomOf : (s.settleCharge e).room = s.room.applyDifference (creditsOf e.number rest) e.amount := by rw [settled]
  refine ⟨?_, ?_, ?_, (settledNotices.trans notices).trans heldNotices, ?_, ?_, ?_, ?_⟩
  · refine (first.trans middle).trans ?_
    rw [held]
    exact .refl u
  · rw [held, lock, settled]
  · rw [held, line, settled]
  · rw [held, queue]
  · rw [held]
  · rw [held]
  · have occupancy : u.room.occupancy = s.room.occupancy := by
      rw [room, roomOf]
      exact RoomRecord.applyDifference_occupancy ..
    rw [held, queue, occupancy]
    dsimp only
    rw [room, roomOf, settledRoom]

theorem exec_settled (here : s.AddressedBy address) {hi lo : Byte} {kind : PlKind} {u : State} {e : QueueEntry}
    {rest : List QueueEntry} (entries : s.charges.entries = e :: rest) (two : kind.bodyLength = 2) (usual : kind ≠ .collect)
    (acts : s.hearFrame.plAct kind [hi, lo] [] = (u.endHold, .none))
    (between : OnlyViewing (s.hearFrame.settleCharge e) u) :
    ∃ t, exec (kind.command address [hi, lo]) s = .next t ∧ Answered t address .none none ∧
      t.line.latched = s.line.latched ∧ t = { u.endHold with line := t.line } ∧ Frame s t ∧ t.lock = s.lock ∧
      OnlyNotices s t := by
  have entries' : s.hearFrame.charges.entries = e :: rest := by rw [State.hearFrame_charges]; exact entries
  obtain ⟨frame, lock, line, notices, -⟩ := State.settled_eq entries' between
  obtain ⟨t, done, answered, latched, only⟩ := exec_answered here (kind := kind) (by rw [two]; rfl) acts (by rw [line])
  rw [if_neg usual] at answered
  have heardLock : s.hearFrame.lock = s.lock := by rw [s.hearFrame_eq]
  refine ⟨t, done, answered, ?_, only, ?_, ?_, ?_⟩
  · rw [latched, line]
    exact s.hearFrame_latched
  · rw [only]
    exact s.hearFrame_frame.trans frame
  · rw [only]
    exact lock.trans heardLock
  · rw [only]
    exact s.hearFrame_onlyNotices.trans (u := u.endHold) notices

/-- Settles O46. -/
theorem aDeclinedChargeIsSettled : Obligations.ADeclinedChargeIsSettled := by
  intro s address hi lo here
  have queue := State.hearFrame_charges (s := s)
  refine ⟨fun e rest entries own declined => ?_, fun other c row => ?_⟩
  · have entries' : s.hearFrame.charges.entries = e :: rest := queue ▸ entries
    have head : s.hearFrame.declinedHead (field [hi, lo] 0 2) = some e := by
      rw [field_two, ← own]
      exact State.declinedHead_some entries' declined
    have number : field [hi, lo] 0 2 = e.number := by rw [field_two, own]
    have waives : s.hearFrame.plAct .waive [hi, lo] [] =
        (((s.hearFrame.settleCharge e).markWaived e.number).endHold, .none) := by
      rw [State.plAct, State.waiveCharge, head, number]
    have revokes : s.hearFrame.plAct .revoke [hi, lo] [] =
        (((s.hearFrame.settleCharge e).endRentalOfCharge e.number).endHold, .none) := by
      rw [State.plAct, State.revokeCharge, head, number]
    have marked : OnlyViewing (s.hearFrame.settleCharge e) ((s.hearFrame.settleCharge e).markWaived e.number) := ⟨rfl, rfl⟩
    have ended := (s.hearFrame.settleCharge e).endRentalOfCharge_onlyViewing e.number
    obtain ⟨t, waived, tAnswered, tLatched, tOnly, tFrame, tLock, tNotices⟩ :=
      exec_settled here entries (kind := .waive) rfl (by decide) waives marked
    obtain ⟨u, revoked, uAnswered, uLatched, uOnly, uFrame, uLock, uNotices⟩ :=
      exec_settled here entries (kind := .revoke) rfl (by decide) revokes ended
    obtain ⟨-, -, -, -, tCharges, tLanes, tRentals, tRoom⟩ := State.settled_eq entries' marked
    obtain ⟨-, -, -, -, uCharges, -, uRentals, uRoom⟩ := State.settled_eq entries' ended
    obtain ⟨settled, -⟩ := State.settleCharge_eq entries'
    rw [queue] at tCharges uCharges
    have rentals : (s.hearFrame.settleCharge e).rentals = s.rentals := by rw [settled, s.hearFrame_eq]
    have lanes : (s.hearFrame.settleCharge e).lanes = s.lanes := by rw [settled, s.hearFrame_eq]
    have waivedRoom : ((s.hearFrame.settleCharge e).markWaived e.number).room =
        s.room.applyDifference (creditsOf e.number rest) e.amount := by
      show (s.hearFrame.settleCharge e).room = _
      rw [settled, s.hearFrame_room]
    have queueAfter : t.charges.entries = settledQueue e.number rest := by
      rw [tOnly]
      exact congrArg (·.entries) tCharges
    rw [s.hearFrame_room] at tRoom uRoom
    rw [waivedRoom] at tRoom
    refine ⟨t, u, waived, revoked, tAnswered, uAnswered, tLatched, uLatched, ?_, ?_, ?_, ?_, ?_, ?_, ?_, ?_, ?_⟩
    · rw [tOnly]
      exact tCharges
    · rw [tOnly, uOnly]
      exact uCharges.trans tCharges.symm
    · rintro spend billed credits rfl rfl rfl ok
      have room : t.room = { settledRoom s.room e.number e.amount rest with
          previewUsed := (s.room.applyDifference (creditsOf e.number rest) e.amount).previewUsed } := by
        rw [tOnly]
        exact tRoom
      refine ⟨?_, ?_⟩
      · rw [room, queueAfter, settledRoom, RoomRecord.applyDifference_eq ok]
        rfl
      · have after : u.room = { settledRoom s.room e.number e.amount rest with previewUsed := u.room.previewUsed } := by
          rw [uOnly]
          exact uRoom.trans (by rw [uRoom])
        rw [room]
        exact after
    · rw [tOnly]
      exact tRentals.trans (congrArg (List.map _) rentals)
    · rw [tOnly]
      exact tLanes.trans lanes
    · intro seats charges
      have law : (s.hearFrame.settleCharge e).SeatLaw :=
        seats.seatLaw.congr (fun n => by rw [State.lane, lanes]; exact ⟨rfl, rfl⟩) rentals
      rw [uOnly]
      exact (uRentals.trans (law.rentals_endRentalOfCharge (rentals ▸ charges) e.number)).trans (by rw [rentals])
    · exact Frame.onlyViewing (t := { t with charges := s.charges, room := s.room, line := s.line }) tFrame tLock rfl rfl rfl
        tNotices
    · exact Frame.onlyViewing (t := { u with charges := s.charges, room := s.room, line := s.line }) uFrame uLock rfl rfl rfl
        uNotices
    · intro free
      have shown := State.endHold_shows (s := (s.hearFrame.settleCharge e).markWaived e.number) (by
        intro x queued
        have among : x ∈ settledQueue e.number rest := by
          have entries : (s.hearFrame.settleCharge e).charges.entries = settledQueue e.number rest := by rw [settled]
          exact entries ▸ queued
        exact free x (List.mem_of_mem_filter among))
      have entries : ((s.hearFrame.settleCharge e).markWaived e.number).charges.entries = settledQueue e.number rest := by
        show (s.hearFrame.settleCharge e).charges.entries = _
        rw [settled]
      rw [queueAfter, tOnly, ← entries]
      exact shown
  · have none : s.hearFrame.declinedHead (field [hi, lo] 0 2) = none := by
      rw [field_two]
      exact State.declinedHead_none (queue ▸ other)
    obtain rfl | rfl := List.mem_pair.mp row
    · exact exec_answered_unchanged here (kind := .waive) (by decide) (body := [hi, lo]) rfl
        (by rw [State.plAct, State.waiveCharge, none])
    · exact exec_answered_unchanged here (kind := .revoke) (by decide) (body := [hi, lo]) rfl
        (by rw [State.plAct, State.revokeCharge, none])

end Sys2Proof.Machine
end

section
/-! SUPPORT. What bars a lane whatever the seats are (R47, R48, R54), and how the outcome of a bar stands through the admissions and
rental ends that follow it. -/

namespace Sys2Proof.Machine

variable {s t u : State} {n m : Screen}

/-! ### The ordered checks -/

theorem State.verdict_untuned (untuned : (s.lane n).tuned = none) : s.verdict n = .off := by
  unfold State.verdict
  rw [untuned]

theorem State.verdict_shutdown (tuned : (s.lane n).tuned ≠ none) (shut : (s.lane n).shutdown = true) :
    s.verdict n = .blank .shutdown := by
  obtain ⟨service, own⟩ := Option.ne_none_iff_exists'.mp tuned
  unfold State.verdict
  rw [own]
  exact if_pos shut

theorem State.verdict_unknown {service : Nat} (tuned : (s.lane n).tuned = some service) (running : (s.lane n).shutdown = false)
    (absent : s.entry service = none) : s.verdict n = .blank .unknownService := by
  unfold State.verdict
  rw [tuned]
  dsimp only
  rw [absent]
  exact if_neg (by simp [running])

/-- Checks 3 to 7, for a lane tuned to a service of the line-up (R47). -/
theorem State.verdict_of_entry {service : Nat} {e : LineupEntry} (tuned : (s.lane n).tuned = some service)
    (running : (s.lane n).shutdown = false) (entry : s.entry service = some e) : s.verdict n =
      if s.room.occupancy ≠ .occupied ∧ ¬ e.terms.isFree then .blank .vacant
      else if e.adult ∧ ¬ s.room.terms.adult then .blank .adultBarred
      else if s.locked n service (s.lane n).rating e.adult then .blank .locked
      else s.entitlement n e := by
  unfold State.verdict
  rw [tuned]
  dsimp only
  rw [entry]
  exact if_neg (by simp [running])

/-- A screen whose rating compare passes is not locked out of a service that is not adult (R70, R71). -/
theorem State.not_locked {service : Nat} {rating : Rating} (passes : (ratingCompare rating (s.ceiling n)).any = false) :
    s.locked n service rating false = false := by
  simp [State.locked, State.underLock, passes]

theorem State.locked_of_blocked {service : Nat} {rating : Rating} {adult : Bool}
    (blocked : (ratingCompare rating (s.ceiling n)).any = true) (unlock : s.unlockOf n = none) :
    s.locked n service rating adult = true := by
  simp [State.locked, State.underLock, State.holdsUnlock, blocked, unlock]

/-- In an OCCUPIED room a service that is not adult is judged by the lock and by entitlement (R47). -/
theorem State.verdict_of_occupied {service : Nat} {e : LineupEntry} (tuned : (s.lane n).tuned = some service)
    (running : (s.lane n).shutdown = false) (entry : s.entry service = some e) (occupied : s.room.occupancy = .occupied)
    (adult : e.adult = false) : s.verdict n =
      if s.locked n service (s.lane n).rating false then .blank .locked else s.entitlement n e := by
  rw [State.verdict_of_entry tuned running entry, if_neg (by simp [occupied]), if_neg (by simp [adult]), adult]

/-! ### What bars a lane -/

/-- The reason a verdict gives that no seat, rental or preview can lift. -/
def Verdict.bar : Verdict → Option BlankReason
  | .blank reason => if reason = .purchaseNeeded then none else some reason
  | _ => none

/-- What bars a lane, if anything: the checks before entitlement, a package that is not permitted and an EVENT off the air. -/
def State.bar (s : State) (n : Screen) : Option BlankReason := (s.verdict n).bar

theorem Verdict.bar_eq_some {v : Verdict} {reason : BlankReason} :
    v.bar = some reason ↔ v = .blank reason ∧ reason ≠ .purchaseNeeded := by
  cases v with
  | blank other =>
    simp only [Verdict.bar, Verdict.blank.injEq]
    by_cases own : other = .purchaseNeeded
    · simp only [own, if_true]
      exact iff_of_false nofun fun ⟨same, differs⟩ => differs same.symm
    · simp only [own, if_false, Option.some.injEq]
      exact ⟨fun same => ⟨same, same ▸ own⟩, fun h => h.1⟩
  | _ => simp [Verdict.bar]

theorem State.bar_of_verdict {reason : BlankReason} (h : s.verdict n = .blank reason) (differs : reason ≠ .purchaseNeeded) :
    s.bar n = some reason := Verdict.bar_eq_some.mpr ⟨h, differs⟩

/-- Seats and previews bar no lane (R49, R50). -/
theorem State.bar_saleVerdict (s : State) (n : Screen) (service seconds : Nat) : (s.saleVerdict n service seconds).bar = none := by
  unfold State.saleVerdict
  split
  · split
    · rfl
    · split <;> rfl
    · split <;> rfl
  · split
    · rfl
    · split <;> rfl

/-- From s to t nothing differs that bars a lane. -/
structure Bars (s t : State) : Prop where
  settings : ∀ n, (t.lane n).settings = (s.lane n).settings
  lock : t.lock = s.lock
  clock : t.clock = s.clock
  active : t.lineup.active = s.lineup.active
  occupancy : t.room.occupancy = s.room.occupancy
  terms : t.room.terms = s.room.terms

namespace Bars

theorem refl (s : State) : Bars s s := ⟨fun _ => rfl, rfl, rfl, rfl, rfl, rfl⟩

theorem trans (h : Bars s t) (k : Bars t u) : Bars s u :=
  ⟨fun n => (k.settings n).trans (h.settings n), k.lock.trans h.lock, k.clock.trans h.clock, k.active.trans h.active,
    k.occupancy.trans h.occupancy, k.terms.trans h.terms⟩

theorem tuned (h : Bars s t) (n : Screen) : (t.lane n).tuned = (s.lane n).tuned := congrArg (·.1) (h.settings n)

theorem rating (h : Bars s t) (n : Screen) : (t.lane n).rating = (s.lane n).rating := congrArg (·.2.2.1) (h.settings n)

theorem shutdown (h : Bars s t) (n : Screen) : (t.lane n).shutdown = (s.lane n).shutdown := congrArg (·.2.2.2) (h.settings n)

theorem entry (h : Bars s t) : t.entry = s.entry := funext fun service => by
  rw [State.entry, h.active]
  rfl

theorem locked (h : Bars s t) (n : Screen) (service : Nat) (rating : Rating) (adult : Bool) :
    t.locked n service rating adult = s.locked n service rating adult := by
  simp only [State.locked, State.underLock, State.holdsUnlock, State.ceiling, State.unlockOf, h.lock]

theorem entitlement (h : Bars s t) (n : Screen) (e : LineupEntry) : (t.entitlement n e).bar = (s.entitlement n e).bar := by
  cases terms : e.terms with
  | free => simp only [State.entitlement, terms]
  | package number => simp only [State.entitlement, terms, h.terms]
  | film => simp only [State.entitlement, terms, State.bar_saleVerdict]
  | event code preview start stop =>
    simp only [State.entitlement, terms, h.clock]
    split
    · simp only [State.bar_saleVerdict]
    · rfl

/-- What bars a lane stands where what it is judged by stands. -/
theorem bar (h : Bars s t) (n : Screen) : t.bar n = s.bar n := by
  unfold State.bar
  cases tuned : (s.lane n).tuned with
  | none => rw [State.verdict_untuned tuned, State.verdict_untuned ((h.tuned n).trans tuned)]
  | some service =>
    have own : (t.lane n).tuned = some service := (h.tuned n).trans tuned
    have flag := h.shutdown n
    by_cases shut : (s.lane n).shutdown = true
    · rw [State.verdict_shutdown (by simp [tuned]) shut, State.verdict_shutdown (by simp [own]) (flag.trans shut)]
    · have running : (s.lane n).shutdown = false := Bool.eq_false_iff.mpr shut
      cases entry : s.entry service with
      | none =>
        rw [State.verdict_unknown tuned running entry,
          State.verdict_unknown own (flag.trans running) ((congrFun h.entry service).trans entry)]
      | some e =>
        rw [State.verdict_of_entry tuned running entry,
          State.verdict_of_entry own (flag.trans running) ((congrFun h.entry service).trans entry),
          h.occupancy, h.terms, h.rating, h.locked]
        split
        · rfl
        · split
          · rfl
          · split
            · rfl
            · exact h.entitlement n e

end Bars

theorem Viewing.bars (h : Viewing s t) : Bars s t := by
  obtain ⟨lock, -, -, room, -⟩ := h.only.stands
  obtain ⟨-, -, clock, lineup, -⟩ := h.only.frame
  exact ⟨h.settings, lock, clock, by rw [lineup], by rw [room], by rw [room]⟩

/-- An end of a rental bars no lane (R122). -/
theorem Bars.endRental (s : State) (index : Fin 8) : Bars s (s.endRental index) := by
  cases held : s.rentalAt index with
  | none =>
    rw [State.endRental_none s index held]
    exact refl s
  | some r =>
    rw [State.endRental_eq held]
    have listed : Bars s { s with rentals := s.rentals.filter (fun x => x.index ≠ index) } :=
      ⟨fun _ => rfl, rfl, rfl, rfl, rfl, rfl⟩
    have index : r.index = index := Moves.index_of_rentalAt held
    subst index
    exact listed.trans (((Viewing.clearStandings _ _).trans (.admitTuned _ _ _)).trans (.raise ..)).bars

/-! ### Rules of a lane -/

/-- What holds of lane n's record after every admission by what judges it in s, and stands when the lane loses its standing. -/
structure Rules (s : State) (n : Screen) (law : Lane → Prop) : Prop where
  own : ∀ t, Bars s t → ∀ v, v = t.verdict n ∨ v = (t.verdict n).withoutPreview → law (v.outcome t n)
  freed : ∀ l, law l → law { l with standing := .none }

/-- A lane that is BLANK for a reason, with no seat and no preview. -/
structure Lane.Shut (reason : BlankReason) (l : Lane) : Prop where
  state : l.state = .blank reason
  standing : l.standing = .none
  previewEnd : l.previewEnd = none

/-- A barred lane is BLANK for the reason that bars it (R47, R51). -/
theorem Rules.shut {reason : BlankReason} (barred : s.bar n = some reason) : Rules s n (Lane.Shut reason) where
  own t h v own := by
    obtain ⟨verdict, -⟩ := Verdict.bar_eq_some.mp ((h.bar n).trans barred)
    have blank : v = .blank reason := by
      rw [verdict] at own
      exact own.elim id id
    rw [blank]
    exact ⟨rfl, rfl, rfl⟩
  freed l h := ⟨h.state, rfl, h.previewEnd⟩

/-- A lane that a reason does not bar is not BLANK for it (R47, R51). -/
theorem Rules.free {reason : BlankReason} (free : s.bar n ≠ some reason)
    (kind : reason ≠ .purchaseNeeded ∧ reason ≠ .seatWait) : Rules s n (fun l => l.state ≠ .blank reason) where
  own t h v own := by
    obtain ⟨notPurchase, notWait⟩ := kind
    have differs : t.verdict n ≠ .blank reason := fun same => free ((h.bar n).symm.trans (State.bar_of_verdict same notPurchase))
    have suits := t.verdict_suits n
    generalize t.verdict n = judged at own differs suits
    obtain rfl | rfl := own
    · cases v with
      | previewKeep => exact suits.2.2.2.1 ▸ nofun
      | blank other => exact fun same => differs (congrArg Verdict.blank (LaneState.blank.inj same))
      | waitJoin | waitKeep => exact fun same => notWait (LaneState.blank.inj same).symm
      | _ => exact nofun
    · cases judged with
      | previewStart seconds => exact fun same => notPurchase (LaneState.blank.inj same).symm
      | previewKeep => exact suits.2.2.2.1 ▸ nofun
      | blank other => exact fun same => differs (congrArg Verdict.blank (LaneState.blank.inj same))
      | waitJoin | waitKeep => exact fun same => notWait (LaneState.blank.inj same).symm
      | _ => exact nofun
  freed _ h := h

namespace Rules

variable {law : Lane → Prop}

theorem settle (h : Rules s n law) (bars : Bars s t) {v : Verdict} (own : v = t.verdict m ∨ v = (t.verdict m).withoutPreview)
    (now : m = n ∨ law (t.lane n)) : law ((t.settle m v).lane n) := by
  by_cases same : m = n
  · subst same
    rw [State.lane_settle_self]
    exact h.own t bars v own
  · rw [State.lane_settle_ne t (Ne.symm same)]
    exact now.resolve_left same

theorem give (h : Rules s n law) (bars : Bars s t) (service : Nat) (w : Screen) (now : law (t.lane n)) :
    law (((t.give service w).settle w ((t.give service w).verdict w)).lane n) := by
  refine h.settle (bars.trans (Viewing.give t service w).bars) (.inl rfl) ?_
  by_cases same : w = n
  · exact .inl same
  · rw [State.lane_give_ne t service (Ne.symm same)]
    exact .inr now

theorem handOver (h : Rules s n law) (service : Nat) (waiting : List Screen) (bars : Bars s t) (now : law (t.lane n)) :
    law ((Machine.handOver service waiting t).lane n) := by
  induction waiting generalizing t with
  | nil => exact now
  | cons w rest ih =>
    have given := h.give bars service w now
    rw [handOver_cons]
    split
    next keeps => rwa [keeps] at given
    · exact ih (bars.trans ((Viewing.give t service w).trans (.settle ..)).bars) given

theorem handOn (h : Rules s n law) (bars : Bars s t) (before : Lane) (now : law (t.lane n)) : law ((t.handOn before).lane n) := by
  unfold State.handOn
  split
  · exact h.handOver _ _ bars now
  · exact now

theorem admitAs (h : Rules s n law) (bars : Bars s t) {v : Verdict} (own : v = t.verdict m ∨ v = (t.verdict m).withoutPreview)
    (now : m = n ∨ law (t.lane n)) : law ((t.admitAs m v).lane n) := by
  have settled := h.settle bars own now
  unfold State.admitAs
  split
  · exact h.handOn (bars.trans (Viewing.settle t m v).bars) _ settled
  · exact settled

theorem admitLane (h : Rules s n law) (bars : Bars s t) (now : m = n ∨ law (t.lane n)) : law ((t.admitLane m).lane n) :=
  h.admitAs bars (.inl rfl) now

theorem resetLane (h : Rules s n law) (bars : Bars s t) (now : m = n ∨ law (t.lane n)) : law ((t.resetLane m).lane n) := by
  unfold State.resetLane
  split
  · exact h.admitAs bars (.inr rfl) now
  · exact h.admitLane bars now

theorem release (h : Rules s n law) (bars : Bars s t) (m : Screen) (now : law (t.lane n)) : law ((t.release m).lane n) := by
  have left : Viewing t (t.leave m) := (Viewing.mapTunedRental t m (·.without m) (fun _ => rfl)).trans (.setLane _ m _ (by
    unfold State.mapTunedRental
    split <;> rfl))
  rw [State.release_eq]
  refine h.handOn (bars.trans left.bars) _ ?_
  by_cases same : n = m
  · subst same
    rw [State.lane_leave_self]
    exact h.freed _ now
  · rw [State.lane_leave_ne t same]
    exact now

/-- An event that keeps the law, and brings it about at one of the things it does, has it at the end. -/
theorem foldl {α : Type} {f : State → α → State} (keeps : ∀ t a, Bars s t → Bars s (f t a))
    {now : State → α → Prop} (acts : ∀ t a, Bars s t → now t a ∨ law (t.lane n) → law ((f t a).lane n)) (order : List α)
    (bars : Bars s t) (some : (∃ a ∈ order, ∀ t, Bars s t → now t a) ∨ law (t.lane n)) :
    Bars s (order.foldl f t) ∧ law ((order.foldl f t).lane n) := by
  induction order generalizing t with
  | nil =>
    obtain ⟨a, among, -⟩ | held := some
    · cases among
    · exact ⟨bars, held⟩
  | cons a rest ih =>
    refine ih (keeps t a bars) ?_
    obtain ⟨x, among, acted⟩ | held := some
    · obtain rfl | later := List.mem_cons.mp among
      · exact .inr (acts t x bars (.inl (acted t bars)))
      · exact .inl ⟨x, later, acted⟩
    · exact .inr (acts t a bars (.inr held))

theorem admitEach (h : Rules s n law) (bars : Bars s t) (order : List Screen) (now : n ∈ order ∨ law (t.lane n)) :
    law ((t.admitEach order).lane n) :=
  (foldl (now := fun _ m => m = n) (fun t m bars => bars.trans (Viewing.admitLane t m).bars)
    (fun _ _ bars now => h.admitLane bars now) order bars (now.imp_left fun named => ⟨n, named, fun _ _ => rfl⟩)).2

theorem admitAll (h : Rules s n law) (bars : Bars s t) : law (t.admitAll.lane n) :=
  h.admitEach bars screens (.inl (mem_screens n))

theorem resetLanes (h : Rules s n law) (bars : Bars s t) : law ((screens.foldl State.resetLane t).lane n) :=
  (foldl (now := fun _ m => m = n) (fun t m bars => bars.trans (Viewing.resetLane t m).bars)
    (fun _ _ bars now => h.resetLane bars now) screens bars (.inl ⟨n, mem_screens n, fun _ _ => rfl⟩)).2

theorem admitTuned (h : Rules s n law) (bars : Bars s t) (service : Nat) (order : List Screen)
    (now : (n ∈ order ∧ (s.lane n).tuned = some service) ∨ law (t.lane n)) : law ((t.admitTuned service order).lane n) := by
  refine (foldl (now := fun t m => m = n ∧ (t.lane m).tuned = some service)
    (fun t m bars => ?_) (fun t m bars now => ?_) order bars ?_).2
  · unfold State.admitIfTuned
    split
    · exact bars.trans (Viewing.admitLane t m).bars
    · exact bars
  · unfold State.admitIfTuned
    split
    · exact h.admitLane bars (now.imp_left (·.1))
    next other => exact now.resolve_left fun own => other own.2
  · exact now.imp_left fun ⟨named, tuned⟩ => ⟨n, named, fun t bars => ⟨rfl, (bars.tuned n).trans tuned⟩⟩

theorem clearStandings (h : Rules s n law) (lanes : List Screen) (now : law (t.lane n)) :
    law ((t.clearStandings lanes).lane n) := by
  rw [State.lane_clearStandings]
  split
  · exact h.freed _ now
  · exact now

theorem endRental (h : Rules s n law) (bars : Bars s t) (index : Fin 8) (now : law (t.lane n)) :
    law ((t.endRental index).lane n) := by
  cases held : t.rentalAt index with
  | none => rwa [State.endRental_none t index held]
  | some r =>
    have index : r.index = index := Moves.index_of_rentalAt held
    subst index
    rw [State.endRental_eq held]
    have listed : Bars t { t with rentals := t.rentals.filter (fun x => x.index ≠ r.index) } :=
      ⟨fun _ => rfl, rfl, rfl, rfl, rfl, rfl⟩
    have unrented : Bars t (t.unrent r) := listed.trans (Viewing.clearStandings _ _).bars
    have cleared : law ((t.unrent r).lane n) := by
      rw [State.lane_unrent]
      split
      · exact h.freed _ now
      · exact now
    generalize t.unrent r = u at unrented cleared ⊢
    have admitted := h.admitTuned (bars.trans unrented) r.service screens (.inr cleared)
    generalize u.admitTuned r.service screens = v at admitted ⊢
    exact admitted

theorem endRentals (h : Rules s n law) (bars : Bars s t) (indices : List (Fin 8)) (now : law (t.lane n)) :
    law ((t.endRentals indices).lane n) :=
  (foldl (now := fun _ _ => False) (fun t i bars => bars.trans (.endRental t i))
    (fun _ i bars now => h.endRental bars i (now.resolve_left id)) indices bars (.inr now)).2

end Rules

end Sys2Proof.Machine
end

section
/-! SUPPORT. Entitlement said in the words of an entry (R48 to R50), and what outlasts admissions: a notice of no lane, and the lanes
of other services. -/

namespace Sys2Proof.Machine

variable {s t u : State} {n m : Screen}

/-! ### Entitlement -/

theorem ClockUnit.within_eq_true {c : ClockUnit} {start stop : Nat} :
    c.within start stop = true ↔ c.isSet = true ∧ start ≤ c.count ∧ c.count < stop := by
  simp [ClockUnit.within, and_assoc]

/-- An EVENT off the air bars a lane that passes the checks before entitlement (R48, R54). -/
theorem State.bar_offAir {service : Nat} {e : LineupEntry} (tuned : (s.lane n).tuned = some service)
    (running : (s.lane n).shutdown = false) (entry : s.entry service = some e) (occupied : s.room.occupancy = .occupied)
    (adult : e.adult = false) (passes : (ratingCompare (s.lane n).rating (s.ceiling n)).any = false) {w : Nat × Nat}
    (window : w ∈ e.terms.window) (out : s.clock.within w.1 w.2 = false) : s.bar n = some .offAir := by
  refine State.bar_of_verdict ?_ nofun
  rw [State.verdict_of_occupied tuned running entry occupied adult, if_neg (by simp [State.not_locked passes])]
  cases terms : e.terms with
  | event code preview start stop =>
    rw [terms] at window
    cases window
    simp only [State.entitlement, terms]
    exact if_neg (by simp [out])
  | _ => simp [terms, Terms.window] at window

/-- An EVENT on the air is not what bars a lane (R48, R54). -/
theorem State.bar_ne_offAir {service : Nat} {e : LineupEntry} (tuned : (s.lane n).tuned = some service)
    (entry : s.entry service = some e) (air : ∀ w ∈ e.terms.window, s.clock.within w.1 w.2 = true) :
    s.bar n ≠ some .offAir := by
  have entitled : (s.entitlement n e).bar ≠ some .offAir := by
    cases terms : e.terms with
    | free => simp [State.entitlement, terms, Verdict.bar]
    | package number =>
      simp only [State.entitlement, terms]
      split <;> simp [Verdict.bar]
    | film => simp [State.entitlement, terms, State.bar_saleVerdict]
    | event code preview start stop =>
      have now := air (start, stop) (by rw [terms]; rfl)
      simp [State.entitlement, terms, now, State.bar_saleVerdict]
  by_cases shut : (s.lane n).shutdown = true
  · rw [State.bar, State.verdict_shutdown (by simp [tuned]) shut]
    simp [Verdict.bar]
  · rw [State.bar, State.verdict_of_entry tuned (Bool.eq_false_iff.mpr shut) entry]
    split
    · simp [Verdict.bar]
    · split
      · simp [Verdict.bar]
      · split
        · simp [Verdict.bar]
        · exact entitled

/-- A service without a rental whose preview has been used asks for a purchase (R50). -/
theorem State.saleVerdict_of_used {service : Nat} (unrented : s.rentalOf service = none)
    (idle : (s.lane n).previewEnd = none) (used : service ∈ s.room.previewUsed) (seconds : Nat) :
    s.saleVerdict n service seconds = .blank .purchaseNeeded := by
  unfold State.saleVerdict
  rw [unrented]
  dsimp only
  rw [if_neg (by simp [idle]), if_neg (by simp [used])]

/-- A preview is begun of a service that has preview seconds and none of them used yet (R50, R105). -/
structure State.BeginsPreview (s : State) (n : Screen) (seconds : Nat) : Prop where
  occupied : s.room.occupancy = .occupied
  positive : 0 < seconds
  service : ∃ service e, (s.lane n).tuned = some service ∧ s.entry service = some e ∧ seconds ∈ e.terms.previewSeconds ∧
    service ∉ s.room.previewUsed

theorem State.saleVerdict_begins {service seconds k : Nat} (h : s.saleVerdict n service seconds = .previewStart k) :
    k = seconds ∧ 0 < seconds ∧ service ∉ s.room.previewUsed := by
  unfold State.saleVerdict at h
  split at h
  · split at h
    · cases h
    · split at h <;> cases h
    · split at h <;> cases h
  · split at h
    · cases h
    · split at h
      next begins =>
        obtain ⟨positive, unused⟩ := begins
        cases h
        exact ⟨rfl, positive, by simpa using unused⟩
      · cases h

theorem State.verdict_begins {k : Nat} (h : s.verdict n = .previewStart k) : s.BeginsPreview n k := by
  cases tuned : (s.lane n).tuned with
  | none =>
    rw [State.verdict_untuned tuned] at h
    cases h
  | some service =>
    by_cases shut : (s.lane n).shutdown = true
    · rw [State.verdict_shutdown (by simp [tuned]) shut] at h
      cases h
    · cases entry : s.entry service with
      | none =>
        rw [State.verdict_unknown tuned (Bool.eq_false_iff.mpr shut) entry] at h
        cases h
      | some e =>
        have own := State.service_of_entry entry
        rw [State.verdict_of_entry tuned (Bool.eq_false_iff.mpr shut) entry] at h
        split at h
        · cases h
        next vacant =>
          have occupied (kind : e.terms.isFree = false) : s.room.occupancy = .occupied := by
            by_contra other
            exact vacant ⟨other, by simp [kind]⟩
          split at h
          · cases h
          · split at h
            · cases h
            · unfold State.entitlement at h
              split at h
              · cases h
              · split at h <;> cases h
              next film =>
                obtain ⟨rfl, positive, unused⟩ := State.saleVerdict_begins h
                exact ⟨occupied (by rw [film]; rfl), positive, service, e, tuned, entry, by simp [film, Terms.previewSeconds], own ▸ unused⟩
              next event =>
                split at h
                · obtain ⟨rfl, positive, unused⟩ := State.saleVerdict_begins h
                  exact ⟨occupied (by rw [event]; rfl), positive, service, e, tuned, entry, by simp [event, Terms.previewSeconds], own ▸ unused⟩
                · cases h

/-- An outcome that begins no preview writes nothing of the room (R51). -/
theorem State.room_settle {v : Verdict} (begins : ∀ k, v ≠ .previewStart k) : (s.settle n v).room = s.room := by
  have change (t : State) (state : LaneState) (standing : Standing) (stop : Option Nat) :
      (t.change n state standing stop).room = t.room := by
    unfold State.change
    split <;> rfl
  have mapped (f : Rental → Rental) : (s.mapTunedRental n f).room = s.room := by
    unfold State.mapTunedRental
    split <;> rfl
  cases v with
  | previewStart k => exact absurd rfl (begins k)
  | previewKeep => rfl
  | _ => simp only [State.settle, change, mapped]

/-- An outcome that neither begins nor keeps a preview leaves none (R51). -/
theorem Verdict.outcome_previewEnd {v : Verdict} (begins : ∀ k, v ≠ .previewStart k) (keeps : v ≠ .previewKeep) :
    (v.outcome s n).previewEnd = none ∧ (v.outcome s n).state ≠ .preview := by
  cases v with
  | previewStart k => exact absurd rfl (begins k)
  | previewKeep => exact absurd rfl keeps
  | _ => exact ⟨rfl, nofun⟩

/-! ### What outlasts admissions -/

/-- What outcomes and seats given keep, an outcome taken keeps with the seat it hands on (R51, R55). -/
theorem admitAs_keeps {law : State → Prop} (settle : ∀ t m, law t → law (t.settle m (t.verdict m)))
    (give : ∀ t service w, law t → law (t.give service w)) {n : Screen} {v : Verdict} (settled : law (s.settle n v)) :
    law (s.admitAs n v) := by
  have handOver (service : Nat) (waiting : List Screen) : ∀ t, law t → law (handOver service waiting t) := by
    induction waiting with
    | nil => exact fun _ h => h
    | cons w rest ih =>
      intro t h
      have given := settle _ w (give t service w h)
      rw [handOver_cons]
      split
      next keeps => rwa [keeps] at given
      · exact ih _ given
  unfold State.admitAs
  split
  · unfold State.handOn
    split
    · exact handOver _ _ _ settled
    · exact settled
  · exact settled

theorem admitLane_keeps {law : State → Prop} (settle : ∀ t m, law t → law (t.settle m (t.verdict m)))
    (give : ∀ t service w, law t → law (t.give service w)) (n : Screen) (h : law s) : law (s.admitLane n) :=
  admitAs_keeps settle give (settle s n h)

theorem foldl_state_keeps {α : Type} {law : State → Prop} {f : State → α → State} (h : ∀ t a, law t → law (f t a)) (order : List α)
    (start : law s) : law (order.foldl f s) := by
  induction order generalizing s with
  | nil => exact start
  | cons a rest ih => exact ih (h s a start)

/-- A pair of no lane. -/
abbrev NoticePair.notOfLane (p : NoticePair) : Prop := ∀ n, p ≠ .lane n

namespace Shows

variable {p : NoticePair} {v : Snapshot}

theorem change (h : Shows s p v) (other : p ≠ .lane n) (state : LaneState) (standing : Standing) (stop : Option Nat) :
    Shows (s.change n state standing stop) p v := by
  unfold State.change
  split
  · exact h
  · exact Shows.raise (s := s.setLane n _) h other _ _

theorem mapTunedRental (h : Shows s p v) (n : Screen) (f : Rental → Rental) : Shows (s.mapTunedRental n f) p v := by
  unfold State.mapTunedRental
  split <;> exact h

theorem settle (h : Shows s p v) (other : p ≠ .lane n) (outcome : Verdict) : Shows (s.settle n outcome) p v := by
  cases outcome with
  | off | blank | openFree | seatGrant | waitJoin => exact (h.mapTunedRental n _).change other ..
  | seatKeep | waitKeep => exact h.change other ..
  | previewKeep => exact h
  | previewStart seconds =>
    have begun : Shows ((s.mapTunedRental n (·.without n)).change n .preview .none (some (s.runEnd seconds))) p v :=
      (h.mapTunedRental n _).change other ..
    unfold State.settle
    dsimp only
    split
    · exact begun
    · exact begun

/-- An admission raises notices of lanes alone (R61). -/
theorem admitAs (h : Shows s p v) (other : p.notOfLane) (n : Screen) (outcome : Verdict) : Shows (s.admitAs n outcome) p v :=
  admitAs_keeps (law := fun t => Shows t p v) (fun _ m h => h.settle (other m) _) (fun _ _ _ h => h) (h.settle (other n) outcome)

theorem admitEach (h : Shows s p v) (other : p.notOfLane) (order : List Screen) : Shows (s.admitEach order) p v :=
  foldl_state_keeps (law := fun t => Shows t p v) (fun _ _ h => h.admitAs other _ _) order h

end Shows

/-- A lane of another service is as it was when a lane is admitted (R55). -/
theorem State.SeatLaw.admitAs_apart (law : s.SeatLaw) {v : Verdict} (suits : v.Suits s n)
    (other : (s.lane m).tuned ≠ (s.lane n).tuned) : (s.admitAs n v).lane m = s.lane m := by
  have apart : m ≠ n := fun same => other (same ▸ rfl)
  have settled : (s.settle n v).lane m = s.lane m := State.lane_settle_ne s apart v
  unfold State.admitAs
  split
  · unfold State.handOn
    split
    next service _ tuned =>
      refine (State.lane_handOver_ne fun waits => ?_).trans settled
      obtain ⟨r, held, rfl, among⟩ := State.mem_waitingOf waits
      obtain ⟨-, own⟩ := (((law.settle suits).1.placed m).waiting r held).mp among
      rw [State.tuned_settle] at own
      exact other (own.trans tuned.symm)
    · exact settled
  · exact settled

/-- So are several lanes of one service (R53). -/
theorem State.SeatLaw.admitTuned_apart (law : s.SeatLaw) {service : Nat} (other : (s.lane m).tuned ≠ some service)
    (order : List Screen) : (s.admitTuned service order).lane m = s.lane m := by
  induction order generalizing s with
  | nil => rfl
  | cons n rest ih =>
    rw [State.admitTuned, List.foldl_cons, State.admitIfTuned]
    split
    next own =>
      have suits := s.verdict_suits n
      have first : (s.admitLane n).lane m = s.lane m := law.admitAs_apart suits (own ▸ other)
      have kept : (s.admitLane n).SeatLaw := (Reseated.admitAs suits).1.law law
      exact (ih kept (by rw [first]; exact other)).trans first
    · exact ih law other

end Sys2Proof.Machine
end

section
/-! PROOFS. Previews, unlocks, rentals and EVENTs that end, and a rating that changes (R54, R56, R58, R80, R122). -/

namespace Sys2Proof.Machine

variable {s : State} {n : Screen}

/-- The state in which an expired preview's lane is admitted: the end dropped and the service used (R56). -/
def State.previewOver (s : State) (n : Screen) (service : Nat) : State :=
  (s.setLane n { s.lane n with previewEnd := none }).addPreviewUsed service

theorem State.lane_previewOver (s : State) (n : Screen) (service : Nat) :
    (s.previewOver n service).lane n = { s.lane n with previewEnd := none } := State.lane_setLane_self ..

theorem State.previewTest_of_due {service stop : Nat} (tuned : (s.lane n).tuned = some service)
    (previewEnd : (s.lane n).previewEnd = some stop) (due : stop ≤ s.clock.run) :
    s.previewTest n = (s.previewOver n service).admitLane n := by
  rw [State.previewTest, if_pos (by simp [State.previewDue, previewEnd, due])]
  unfold State.expirePreview State.previewOver
  dsimp only
  split
  next untuned => cases tuned.symm.trans untuned
  next other own => rw [Option.some.inj (tuned.symm.trans own)]

/-- A lane whose preview has ended begins no other, and has none to keep (R50, R56). -/
theorem State.verdict_previewOver {service : Nat} (tuned : (s.lane n).tuned = some service) :
    (∀ k, (s.previewOver n service).verdict n ≠ .previewStart k) ∧ (s.previewOver n service).verdict n ≠ .previewKeep := by
  have lane := s.lane_previewOver n service
  refine ⟨fun k begins => ?_, fun keeps => ?_⟩
  · obtain ⟨-, -, other, e, own, -, -, unused⟩ := State.verdict_begins begins
    rw [lane] at own
    obtain rfl := Option.some.inj (tuned.symm.trans own)
    exact unused (mem_addUsed ..)
  · have suits := (s.previewOver n service).verdict_suits n
    rw [keeps] at suits
    obtain ⟨-, -, -, -, stop⟩ := suits
    rw [lane] at stop
    cases stop

theorem OnlyViewing.of_lock {t : State} {lock : LockUnit} (h : OnlyViewing { s with lock := lock } t) :
    OnlyViewing s { t with lock := s.lock } := by
  obtain ⟨only, notices⟩ := h
  exact ⟨congrArg (fun x : State => { x with lock := s.lock }) only, notices⟩

theorem exec_previewExpiry (powered : s.powered = true) : exec (.previewExpiry n) s = .next (s.previewTest n) := by
  show Host.Outcome.next (s.ifPowered _) = _
  rw [State.ifPowered, if_pos powered]

theorem exec_unlockExpiry (powered : s.powered = true) : exec (.unlockExpiry n) s = .next (s.unlockTest n) := by
  show Host.Outcome.next (s.ifPowered _) = _
  rw [State.ifPowered, if_pos powered]

theorem State.unlockTest_of_due {u : Unlock} (unlock : s.unlockOf n = some u) (due : u.stop ≤ s.clock.run) :
    s.unlockTest n = (s.setUnlock n none).admitLane n := by
  unfold State.unlockTest
  rw [unlock]
  exact if_pos due

/-- Settles O27: without a standing the expired lane only takes its outcome, and a blocked screen without its unlock is barred. -/
theorem previewsAndUnlocksExpire : Obligations.PreviewsAndUnlocksExpire := by
  refine ⟨fun s n service stop powered tuned free previewEnd due => ?_, fun s n u powered unlock due => ?_⟩
  · have lane := s.lane_previewOver n service
    have dropped : Viewing s (s.previewOver n service) :=
      (Viewing.setLane s n { s.lane n with previewEnd := none } rfl).trans (.addPreviewUsed _ service)
    have others : ∀ m ≠ n, (s.previewOver n service).lane m = s.lane m := fun m apart => State.lane_setLane_ne s apart _
    have used : service ∈ (s.previewOver n service).room.previewUsed := mem_addUsed ..
    have rented : (s.previewOver n service).rentals = s.rentals := rfl
    obtain ⟨begins, keeps⟩ := State.verdict_previewOver tuned
    have admitted : (s.previewOver n service).admitLane n = (s.previewOver n service).settle n ((s.previewOver n service).verdict n) :=
      State.admitAs_of_free (by rw [lane]; simp [free]) _
    refine ⟨(s.previewOver n service).admitLane n, ?_, ?_⟩
    · rw [exec_previewExpiry powered, State.previewTest_of_due tuned previewEnd due]
    · generalize s.previewOver n service = u at lane dropped others used begins keeps admitted rented ⊢
      rw [admitted]
      have view := dropped.trans (.settle u n (u.verdict n))
      obtain ⟨ended, left⟩ := Verdict.outcome_previewEnd (s := u) (n := n) begins keeps
      rw [← State.lane_settle_self] at ended left
      refine ⟨ended, left, ?_, view.settings n, fun m apart => (State.lane_settle_ne u apart _).trans (others m apart), view.only, ?_⟩
      · rw [State.room_settle begins]
        exact used
      · intro unrented running occupied e entry film adult passes
        have bars := dropped.bars
        have entryNow : u.entry service = some e := (congrFun bars.entry service).trans entry
        have ownService : e.service = service := State.service_of_entry entryNow
        have verdict : u.verdict n = .blank .purchaseNeeded := by
          rw [State.verdict_of_occupied ((bars.tuned n).trans tuned) ((bars.shutdown n).trans running) entryNow
            (bars.occupancy.trans occupied) adult, if_neg (by
              rw [bars.rating, bars.locked, State.not_locked passes]
              exact Bool.false_ne_true)]
          cases terms : e.terms with
          | film code seconds =>
            simp only [State.entitlement, terms, ownService]
            refine State.saleVerdict_of_used ?_ (by rw [lane]) used seconds
            rw [State.rentalOf, rented, List.find?_eq_none]
            exact fun r held own => by
              rw [List.any_eq_false] at unrented
              exact unrented r held own
          | _ => simp [terms, Terms.code] at film
        rw [State.lane_settle_self, verdict]
        rfl
  · refine ⟨(s.setUnlock n none).admitLane n, by rw [exec_unlockExpiry powered, State.unlockTest_of_due unlock due], ?_⟩
    have gone : (s.setUnlock n none).unlockOf n = none := State.unlockOf_setUnlock_self ..
    have others : ∀ m : Screen, m ≠ n → (s.setUnlock n none).unlockOf m = s.unlockOf m :=
      fun m apart => State.unlockOf_setUnlock_ne s apart none
    have view := Viewing.admitLane (s.setUnlock n none) n
    have lock := view.lock_eq
    refine ⟨(view.unlockOf n).trans gone, fun m apart => (view.unlockOf m).trans (others m apart), ?_, view.settings,
      view.only.of_lock, fun running tuned occupied e entry adult blocked => ?_⟩
    · rw [lock]
      rfl
    · obtain ⟨service, own, found⟩ := Option.bind_eq_some_iff.mp entry
      have verdict : (s.setUnlock n none).verdict n = .blank .locked := by
        rw [State.verdict_of_occupied (s := s.setUnlock n none) own running found occupied adult]
        exact if_pos (State.locked_of_blocked (s := s.setUnlock n none) blocked gone)
      have shut := (Rules.shut (State.bar_of_verdict verdict nofun)).admitLane (.refl _) (m := n) (.inl rfl)
      exact ⟨shut.state, shut.standing, shut.previewEnd⟩

/-- Settles O31: an ended rental by the law of the seats, an EVENT's edge by what then bars its lanes. -/
theorem rentalsAndEventsEnd : Obligations.RentalsAndEventsEnd := by
  refine ⟨fun s r powered clock ok held due => ?_,
    fun s service e code preview start stop powered clock ok occupied entry adult terms order edge => ?_⟩
  · have found := State.rentalAt_of_mem ok.seatLaw.indices held
    have ended : exec (.rentalExpiry r.index) s = .next (s.endRental r.index) := by
      show Host.Outcome.next (s.ifPowered _) = _
      rw [State.ifPowered, if_pos powered, State.expireRentalAt, found]
      dsimp only
      rw [if_pos (by simp [Rental.due, clock, due])]
    obtain ⟨rentals, own, other⟩ := ok.seatLaw.endRental held
    obtain ⟨only, settings, -⟩ := s.endRental_view r.index (by simp [found])
    exact ⟨_, ended, rentals, fun n => ⟨settings n, own n, other n⟩, only,
      fun mode => State.endRental_shows (by simp [found]) mode⟩
  · have onEdge : (s.entry service.toNat).any (fun e => e.onEdge s.clock) = true := by
      rw [Option.mem_def.mp entry, Option.any_some]
      simpa [LineupEntry.onEdge, terms, clock] using edge
    have done : exec (.eventWindowEdge service) s = .next (s.admitTuned service.toNat screens) := by
      show Host.Outcome.next (s.ifPowered _) = _
      rw [State.ifPowered, if_pos powered, State.edgeTest, if_pos onEdge]
    have view := Viewing.admitTuned s service.toNat screens
    have window : e.terms.window = some (start, stop) := by rw [terms]; rfl
    refine ⟨_, done, fun n => ⟨view.settings n, fun ends tuned running passes => ?_, fun starts tuned => ?_,
      fun other => ok.seatLaw.admitTuned_apart other screens⟩, view.only⟩
    · have barred := State.bar_offAir tuned running entry occupied adult passes window (by simp [ClockUnit.within, ends])
      have shut := (Rules.shut barred).admitTuned (.refl s) service.toNat screens (.inl ⟨mem_screens n, tuned⟩)
      exact ⟨shut.state, shut.standing, shut.previewEnd⟩
    · have air : s.bar n ≠ some .offAir := State.bar_ne_offAir tuned entry fun w own => by
        obtain rfl := Option.some.inj (window.symm.trans own)
        exact ClockUnit.within_eq_true.mpr ⟨clock, starts.ge, starts ▸ order⟩
      exact (Rules.free air ⟨nofun, nofun⟩).admitTuned (.refl s) service.toNat screens (.inl ⟨mem_screens n, tuned⟩)

theorem quadBytes_eq (a v l x : Byte) (rest : List Byte) :
    quadBytes (a :: v :: l :: x :: rest) 0 = ⟨min a.toNat 15, min v.toNat 15, min l.toNat 15, min x.toNat 15⟩ := by
  simp [quadBytes, field, beNat]

/-- Settles O37: the cell sets the rating, and what then bars the lane is the lock. -/
theorem aRatingCellSetsTheRating : Obligations.ARatingCellSetsTheRating := by
  intro s n service continuity epoch a v l x rest powered
  let cell : Cell := ⟨service, .rating, continuity, epoch, a :: v :: l :: x :: rest⟩
  have done : exec (.ratingCell n service continuity epoch (a :: v :: l :: x :: rest)) s = .next (s.ratingCellAt n cell) := by
    show Host.Outcome.next (s.ifPowered _) = _
    rw [State.ifPowered, if_pos powered]
  refine ⟨fun tuned on => ?_, fun out => ?_⟩
  · let rated : State := s.setLane n { s.lane n with rating := quadBytes cell.payload 0 }
    have taken : s.ratingCellAt n cell = (rated.admitLane n).place n nullCell :=
      if_pos (by simp [Lane.takes, cell, tuned, on])
    have lane : rated.lane n = { s.lane n with rating := quadBytes cell.payload 0 } := State.lane_setLane_self ..
    have others : ∀ m ≠ n, rated.lane m = s.lane m := fun m apart => State.lane_setLane_ne s apart _
    have set : OnlyViewing s rated := ⟨rfl, rfl⟩
    have stands : rated.entry = s.entry ∧ rated.room = s.room ∧ rated.ceiling = s.ceiling ∧ rated.unlockOf = s.unlockOf :=
      ⟨rfl, rfl, rfl, rfl⟩
    rw [done, taken]
    clear_value rated
    have view := Viewing.admitLane rated n
    have only := set.trans view.only
    obtain ⟨-, -, -, -, -, -, outs, -⟩ := only.frame
    have settings := view.settings n
    obtain ⟨entries, room, ceilings, unlocks⟩ := stands
    have shut (e : LineupEntry) (entry : s.entry service.toNat = some e) (running : (s.lane n).shutdown = false)
        (occupied : s.room.occupancy = .occupied) (adult : e.adult = false) (unlock : s.unlockOf n = none)
        (blocked : (ratingCompare (rated.lane n).rating (s.ceiling n)).any = true) :
        Lane.Shut .locked ((rated.admitLane n).lane n) := by
      have verdict : rated.verdict n = .blank .locked := by
        rw [State.verdict_of_occupied (s := rated) (n := n) (by rw [lane]; exact tuned) (by rw [lane]; exact running)
          (by rw [entries]; exact entry) (by rw [room]; exact occupied) adult]
        exact if_pos (State.locked_of_blocked (by rw [ceilings]; exact blocked) (by rw [unlocks]; exact unlock))
      exact (Rules.shut (State.bar_of_verdict verdict nofun)).admitLane (.refl _) (.inl rfl)
    generalize rated.admitLane n = t at view only outs settings shut
    have settingsNow : (t.lane n).settings =
        ((s.lane n).tuned, (s.lane n).keyMiss, quadBytes cell.payload 0, (s.lane n).shutdown) := by
      rw [settings, lane]
      rfl
    simp only [Lane.settings, Prod.mk.injEq] at settingsNow
    obtain ⟨ownTuned, keyMiss, rating, -⟩ := settingsNow
    refine ⟨t.place n nullCell, rfl, rating.trans (quadBytes_eq ..), keyMiss, ownTuned, State.out_place_self .., fun m apart => ⟨?_, ?_⟩, ?_,
      fun e entry running occupied adult unlock blocked => ?_⟩
    · exact (view.settings m).trans (congrArg Lane.settings (others m apart))
    · exact (State.out_place_ne t apart _).trans (by rw [State.out, outs]; rfl)
    · obtain ⟨only, notices⟩ := only
      exact ⟨congrArg (fun x : State => { x with outs := s.outs }) only, notices⟩
    · have locked := shut e entry running occupied adult unlock (by
        rw [lane]
        exact (congrArg (fun q => (ratingCompare q (s.ceiling n)).any) rating).symm.trans blocked)
      exact ⟨locked.state, locked.standing⟩
  · have passed : s.ratingCellAt n cell = s.place n nullCell := by
      refine if_neg ?_
      obtain other | off := out
      · simp [Lane.takes, cell, other]
      · simp [Lane.takes, off]
    exact ⟨_, done.trans (congrArg _ passed), rfl, State.out_place_self .., fun m apart => State.out_place_ne s apart _⟩

end Sys2Proof.Machine
end

section
/-! SUPPORT. The tests made when the room clock moves (R25, R54, R90, R101, R123, R175): what each writes, and what they have done
once all are made, in whatever order (log 4). -/

namespace Sys2Proof.Machine

variable {s t u : State} {n m : Screen}

/-! ### The key halves -/

theorem KeyHalf.tested_tested (h : KeyHalf) (c : ClockUnit) : (h.tested c).tested c = h.tested c := by
  unfold KeyHalf.tested
  split
  · simp [KeyHalf.noKey]
  · rfl

theorem State.half_expireHalf (s : State) (slot k : Fin 16) (p q : Parity) :
    (s.expireHalf slot p).half k q = if k = slot ∧ q = p then (s.half k q).tested s.clock else s.half k q := by
  by_cases own : k = slot
  · subst own
    by_cases same : q = p
    · subst same
      rw [if_pos ⟨rfl, rfl⟩]
      exact State.half_setHalf_self ..
    · have other : q = partner p := by cases q <;> cases p <;> simp_all [partner]
      rw [if_neg (fun h => same h.2), other]
      exact State.half_setHalf_partner ..
  · rw [if_neg (fun h => own h.1), State.half, State.expireHalf, State.keys_setHalf_ne s own]
    rfl

/-- One slot's halves judged (R25, R26). -/
def State.expireSlot (s : State) (slot : Fin 16) : State := (s.expireHalf slot .even).expireHalf slot .odd

theorem State.half_expireSlot (s : State) (slot k : Fin 16) (q : Parity) :
    (s.expireSlot slot).half k q = if k = slot then (s.half k q).tested s.clock else s.half k q := by
  rw [State.expireSlot, State.half_expireHalf, State.half_expireHalf]
  by_cases own : k = slot
  · have clock : (s.expireHalf slot .even).clock = s.clock := rfl
    cases q <;> simp [own, clock]
  · simp [own]

theorem mem_slots (k : Fin 16) : k ∈ slots := by
  revert k
  decide

/-- Every half is judged against the clock (R25, R26). -/
theorem State.half_expireHalves (s : State) (k : Fin 16) (q : Parity) :
    s.expireHalves.half k q = (s.half k q).tested s.clock := by
  have each (some : List (Fin 16)) : ∀ t : State, (some.foldl State.expireSlot t).half k q =
      if k ∈ some then (t.half k q).tested t.clock else t.half k q := by
    induction some with
    | nil => exact fun _ => rfl
    | cons slot rest ih =>
      intro t
      rw [List.foldl_cons, ih, State.half_expireSlot, show (t.expireSlot slot).clock = t.clock from rfl]
      by_cases own : k = slot <;> by_cases later : k ∈ rest <;> simp [own, later, KeyHalf.tested_tested]
  exact (each slots s).trans (if_pos (mem_slots k))

/-- Only the halves are written (R26). -/
theorem State.expireHalves_only (s : State) : s.expireHalves = { s with keys := s.expireHalves.keys } :=
  foldl_state_keeps (law := fun t => t = { s with keys := t.keys }) (f := State.expireSlot)
    (fun t k only => congrArg (fun x : State => { x with keys := (t.expireSlot k).keys }) only) slots rfl

/-! ### The room -/

/-- Only the billed total, the period and the notices are written (R101). -/
theorem State.periodTest_only (s : State) : s.periodTest = { s with
      room := { s.room with billed := s.periodTest.room.billed, period := s.periodTest.room.period }, link := s.periodTest.link } ∧
    OnlyNotices s s.periodTest := by
  unfold State.periodTest
  split <;> exact ⟨rfl, rfl⟩

/-- The period's test of a TIME_SET: a pending period starts, a running one is tested (R100, R101). -/
def State.setPeriod (s : State) : State := if s.room.period.isNone then s.startPeriod else s.periodTest

theorem State.setPeriod_only (s : State) : s.setPeriod = { s with
      room := { s.room with billed := s.setPeriod.room.billed, period := s.setPeriod.room.period }, link := s.setPeriod.link } ∧
    OnlyNotices s s.setPeriod := by
  unfold State.setPeriod
  split
  · unfold State.startPeriod
    split <;> exact ⟨rfl, rfl⟩
  · exact s.periodTest_only

/-! ### The rentals -/

theorem State.OnlyViewing_endRental (s : State) (index : Fin 8) : OnlyViewing s (s.endRental index) := by
  cases held : s.rentalAt index with
  | none =>
    rw [State.endRental_none s index held]
    exact .refl s
  | some r => exact (s.endRental_view index (by simp [held])).1

theorem State.endRentals_onlyViewing (s : State) (indices : List (Fin 8)) : OnlyViewing s (s.endRentals indices) :=
  foldl_state_keeps (law := fun t => OnlyViewing s t) (fun t i h => h.trans (t.OnlyViewing_endRental i)) indices (.refl s)

theorem Bars.endRentals (s : State) (indices : List (Fin 8)) : Bars s (s.endRentals indices) :=
  foldl_state_keeps (law := fun t => Bars s t) (fun t i h => h.trans (.endRental t i)) indices (.refl s)

/-- What a rental shows of its end and its metering. -/
def Rental.brief (r : Rental) : Fin 8 × Nat × Nat := (r.index, r.stop, r.viewed)

abbrev State.briefs (s : State) : List (Fin 8 × Nat × Nat) := s.rentals.map Rental.brief

theorem Viewing.briefs (h : Viewing s t) : t.briefs = s.briefs := by
  have unseated := congrArg (List.map Rental.brief) h.unseated
  rwa [List.map_map, List.map_map] at unseated

theorem State.briefs_endRental (s : State) (index : Fin 8) :
    (s.endRental index).briefs = s.briefs.filter (fun b => b.1 ≠ index) := by
  cases held : s.rentalAt index with
  | none =>
    have absent : ∀ r ∈ s.rentals, r.index ≠ index := by simpa [State.rentalAt] using held
    rw [s.endRental_none index held, List.filter_eq_self.mpr]
    simpa [Rental.brief] using absent
  | some r =>
    obtain ⟨_, _, rest⟩ := s.endRental_view index (Option.isSome_of_eq_some held)
    have briefs := congrArg (List.map Rental.brief) rest
    rw [List.map_map, List.map_map] at briefs
    rw [State.briefs, State.briefs, List.filter_map]
    exact briefs

theorem State.briefs_endRentals (indices : List (Fin 8)) (s : State) :
    (s.endRentals indices).briefs = s.briefs.filter (fun b => b.1 ∉ indices) := by
  induction indices generalizing s with
  | nil => simp [State.endRentals]
  | cons index rest ih =>
    calc (State.endRentals (s.endRental index) rest).briefs
      _ = (s.briefs.filter (fun b => b.1 ≠ index)).filter (fun b => b.1 ∉ rest) := by rw [ih, State.briefs_endRental]
      _ = s.briefs.filter (fun b => b.1 ∉ index :: rest) := by simp [List.filter_filter, Bool.and_comm]

/-- The rentals whose end the SET clock has reached leave the list, and no other (R123). -/
theorem State.briefs_expireRentals (once : (s.rentals.map (·.index)).Nodup) (set : s.clock.isSet = true) :
    s.expireRentals.briefs = (s.rentals.filter (fun r => decide (s.clock.count < r.stop))).map Rental.brief := by
  rw [State.expireRentals, State.briefs_endRentals, State.briefs, List.filter_map]
  refine congrArg (List.map Rental.brief) (List.filter_congr fun r held => ?_)
  have named : r.index ∈ (s.rentals.filter (fun r => r.due s.clock)).map (·.index) ↔ r.stop ≤ s.clock.count := by
    constructor
    · intro among
      obtain ⟨x, kept, same⟩ := List.mem_map.mp among
      obtain ⟨was, due⟩ := List.mem_filter.mp kept
      rw [← List.inj_on_of_nodup_map once was held same]
      simpa [Rental.due, set] using due
    · intro due
      exact List.mem_map.mpr ⟨r, List.mem_filter.mpr ⟨held, by simpa [Rental.due, set] using due⟩, rfl⟩
  simp only [Function.comp, Rental.brief, decide_eq_decide, named]
  omega

/-! ### The lanes -/

theorem Viewing.admitOnEdge (s : State) (n : Screen) : Viewing s (s.admitOnEdge n) := by
  unfold State.admitOnEdge
  split
  · exact .admitLane s n
  · exact .refl s

theorem Bars.laneOnEdge (h : Bars s t) (n : Screen) : t.laneOnEdge n = s.laneOnEdge n := by
  rw [State.laneOnEdge, State.laneOnEdge, h.tuned, h.entry, h.clock]

theorem Rules.admitOnEdge {law : Lane → Prop} (h : Rules s n law) (bars : Bars s t)
    (now : s.laneOnEdge n = true ∨ law (t.lane n)) : law ((screens.foldl State.admitOnEdge t).lane n) :=
  (Rules.foldl (now := fun _ m => m = n ∧ s.laneOnEdge n = true)
    (fun t m bars => bars.trans (Viewing.admitOnEdge t m).bars) (fun t m bars now => by
      unfold State.admitOnEdge
      split
      · exact h.admitLane bars (now.imp_left (·.1))
      next off =>
        refine now.resolve_left fun ⟨same, edge⟩ => off ?_
        rw [same, bars.laneOnEdge]
        exact edge)
    screens bars (now.imp_left fun edge => ⟨n, mem_screens n, fun _ _ => ⟨rfl, edge⟩⟩)).2

theorem State.laneOnEdge_of_window {service : Nat} {e : LineupEntry} (tuned : (s.lane n).tuned = some service)
    (entry : s.entry service = some e) {w : Nat × Nat} (window : w ∈ e.terms.window) (set : s.clock.isSet = true)
    (edge : s.clock.count = w.1 ∨ s.clock.count = w.2) : s.laneOnEdge n = true := by
  rw [State.laneOnEdge, tuned, Option.bind_some, entry, Option.any_some]
  cases terms : e.terms with
  | event code preview start stop =>
    rw [terms] at window
    cases window
    simpa [LineupEntry.onEdge, terms, set] using edge
  | _ => simp [terms, Terms.window] at window

/-! ### One test after another -/

/-- What stands when tests are made: what bars the lanes, the queue, the line, the line-up and the prices. -/
structure Tested (s t : State) : Prop where
  bars : Bars s t
  charges : t.charges = s.charges
  line : t.line = s.line
  lineup : t.lineup = s.lineup
  prices : t.prices = s.prices
  notices : OnlyNotices s t

namespace Tested

theorem refl (s : State) : Tested s s := ⟨.refl s, rfl, rfl, rfl, rfl, rfl⟩

theorem trans (h : Tested s t) (k : Tested t u) : Tested s u :=
  ⟨h.bars.trans k.bars, k.charges.trans h.charges, k.line.trans h.line, k.lineup.trans h.lineup, k.prices.trans h.prices,
    h.notices.trans k.notices⟩

theorem of_viewing (only : OnlyViewing s t) (bars : Bars s t) : Tested s t := by
  obtain ⟨-, charges, line, -, notices⟩ := only.stands
  obtain ⟨-, -, -, lineup, prices, -⟩ := only.frame
  exact ⟨bars, charges, line, lineup, prices, notices⟩

theorem raise (s : State) (p : NoticePair) (v : Snapshot) (fault : Bool) : Tested s (s.raise p v fault) :=
  .of_viewing (Viewing.raise s p v fault).only (Viewing.raise s p v fault).bars

theorem expireHalves (s : State) : Tested s s.expireHalves := by
  have only := s.expireHalves_only
  generalize s.expireHalves = t at only ⊢
  rw [only]
  exact ⟨⟨fun _ => rfl, rfl, rfl, rfl, rfl, rfl⟩, rfl, rfl, rfl, rfl, rfl⟩

theorem expireRentals (s : State) : Tested s s.expireRentals := by
  unfold State.expireRentals
  exact .of_viewing (s.endRentals_onlyViewing _) (.endRentals s _)

theorem period (only : t = { s with room := { s.room with billed := t.room.billed, period := t.room.period }, link := t.link })
    (notices : OnlyNotices s t) : Tested s t := by
  rw [only] at notices ⊢
  exact ⟨⟨fun _ => rfl, rfl, rfl, rfl, rfl, rfl⟩, rfl, rfl, rfl, rfl, notices⟩

theorem meter (s : State) : Tested s s.meter := ⟨⟨fun _ => rfl, rfl, rfl, rfl, rfl, rfl⟩, rfl, rfl, rfl, rfl, rfl⟩

theorem viewing (h : Viewing s t) : Tested s t := .of_viewing h.only h.bars

end Tested

/-- The money side of the period (R100, R101). -/
abbrev State.billing (s : State) : Option CapWindow × Nat := (s.room.period, s.room.billed)

/-- How the tasks of an event that moves the room clock go about it (R90, R175). -/
structure Tests (f : State → ClockTask → State) : Prop where
  keyHalves : ∀ t, f t .keyHalves = t.expireHalves
  rentalEnds : ∀ t, f t .rentalEnds = t.expireRentals
  tested : ∀ t x, Tested t (f t x)
  keys : ∀ t x, x ≠ .keyHalves → (f t x).keys = t.keys
  billing : ∀ t x, x ≠ .capPeriod → (f t x).billing = t.billing
  dues : ∀ t x, x ≠ .rentalEnds → (f t x).rentals.map (fun r => (r.index, r.stop)) = t.rentals.map (fun r => (r.index, r.stop))
  rules : ∀ {s n law}, Rules s n law → ∀ t x, Bars s t → law (t.lane n) → law ((f t x).lane n)

theorem Viewing.dues (h : Viewing s t) :
    t.rentals.map (fun r => (r.index, r.stop)) = s.rentals.map (fun r => (r.index, r.stop)) := by
  have briefs := congrArg (List.map (fun b : Fin 8 × Nat × Nat => (b.1, b.2.1))) h.briefs
  rwa [List.map_map, List.map_map] at briefs

theorem OnlyViewing.billing (h : OnlyViewing s t) : t.billing = s.billing := by
  obtain ⟨-, -, -, room, -⟩ := h.stands
  rw [State.billing, room]

/-- The windows' task is in view (R54). -/
theorem Viewing.windows (s : State) : Viewing s (screens.foldl State.admitOnEdge s) := .foldl _ Viewing.admitOnEdge screens s

theorem tests_second : Tests State.secondTask where
  keyHalves _ := rfl
  rentalEnds _ := rfl
  tested t x := by
    cases x with
    | metering => exact .meter t
    | keyHalves => exact .expireHalves t
    | rentalEnds => exact .expireRentals t
    | capPeriod => exact .period t.periodTest_only.1 t.periodTest_only.2
    | windows => exact .viewing (.windows t)
    | clockNotice => exact .refl t
  keys t x other := by
    cases x with
    | keyHalves => exact absurd rfl other
    | rentalEnds => exact (t.endRentals_onlyViewing _).frame.2.2.2.2.2.1
    | capPeriod =>
      show t.periodTest.keys = _
      rw [t.periodTest_only.1]
    | windows => exact (Viewing.windows t).only.frame.2.2.2.2.2.1
    | _ => rfl
  billing t x other := by
    cases x with
    | capPeriod => exact absurd rfl other
    | keyHalves =>
      show t.expireHalves.billing = _
      rw [t.expireHalves_only]
    | rentalEnds => exact (t.endRentals_onlyViewing _).billing
    | windows => exact (Viewing.windows t).only.billing
    | _ => rfl
  dues t x other := by
    cases x with
    | rentalEnds => exact absurd rfl other
    | metering =>
      show t.meter.rentals.map _ = _
      rw [State.meter, List.map_map]
      refine List.map_congr_left fun r _ => ?_
      dsimp only [Function.comp]
      split <;> rfl
    | keyHalves =>
      show t.expireHalves.rentals.map _ = _
      rw [t.expireHalves_only]
    | capPeriod =>
      show t.periodTest.rentals.map _ = _
      rw [t.periodTest_only.1]
    | windows => exact (Viewing.windows t).dues
    | clockNotice => rfl
  rules {s n law} h t x bars now := by
    cases x with
    | keyHalves =>
      have only := t.expireHalves_only
      show law (t.expireHalves.lane n)
      generalize t.expireHalves = u at only ⊢
      rw [only]
      exact now
    | rentalEnds =>
      have ended := h.endRentals bars ((t.rentals.filter (fun r => r.due t.clock)).map (·.index)) now
      rw [← State.expireRentals] at ended
      exact ended
    | capPeriod =>
      show law (t.periodTest.lane n)
      rw [t.periodTest_only.1]
      exact now
    | windows =>
      have admitted := h.admitOnEdge bars (.inr now)
      show law ((screens.foldl State.admitOnEdge t).lane n)
      exact admitted
    | _ => exact now

theorem tests_set (jump : Jump) : Tests (State.setTask jump) where
  keyHalves _ := rfl
  rentalEnds _ := rfl
  tested t x := by
    cases x with
    | metering => exact .refl t
    | keyHalves => exact .expireHalves t
    | rentalEnds => exact .expireRentals t
    | capPeriod => exact .period t.setPeriod_only.1 t.setPeriod_only.2
    | windows => exact .viewing (.admitAll t)
    | clockNotice => exact .raise ..
  keys t x other := by
    cases x with
    | keyHalves => exact absurd rfl other
    | rentalEnds => exact (t.endRentals_onlyViewing _).frame.2.2.2.2.2.1
    | capPeriod =>
      show t.setPeriod.keys = _
      rw [t.setPeriod_only.1]
    | windows => exact (Viewing.admitAll t).only.frame.2.2.2.2.2.1
    | _ => rfl
  billing t x other := by
    cases x with
    | capPeriod => exact absurd rfl other
    | keyHalves =>
      show t.expireHalves.billing = _
      rw [t.expireHalves_only]
    | rentalEnds => exact (t.endRentals_onlyViewing _).billing
    | windows => exact (Viewing.admitAll t).only.billing
    | _ => rfl
  dues t x other := by
    cases x with
    | rentalEnds => exact absurd rfl other
    | keyHalves =>
      show t.expireHalves.rentals.map _ = _
      rw [t.expireHalves_only]
    | capPeriod =>
      show t.setPeriod.rentals.map _ = _
      rw [t.setPeriod_only.1]
    | windows => exact (Viewing.admitAll t).dues
    | _ => rfl
  rules {s n law} h t x bars now := by
    cases x with
    | keyHalves =>
      have only := t.expireHalves_only
      show law (t.expireHalves.lane n)
      generalize t.expireHalves = u at only ⊢
      rw [only]
      exact now
    | rentalEnds =>
      have ended := h.endRentals bars ((t.rentals.filter (fun r => r.due t.clock)).map (·.index)) now
      rw [← State.expireRentals] at ended
      exact ended
    | capPeriod =>
      show law (t.setPeriod.lane n)
      rw [t.setPeriod_only.1]
      exact now
    | windows => exact h.admitAll bars
    | _ => exact now

/-! ### All tests, in whatever order -/

/-- A task of an order that names it once, between those before it and those after it. -/
theorem split_once {α : Type} {order : List α} {acting : α} (once : order.Nodup) (taken : acting ∈ order) :
    ∃ before after, order = before ++ acting :: after ∧ acting ∉ before ∧ acting ∉ after := by
  obtain ⟨before, after, rfl⟩ := List.append_of_mem taken
  obtain ⟨-, later, apart⟩ := List.nodup_append.mp once
  exact ⟨before, after, rfl, fun early => apart _ early _ List.mem_cons_self rfl, (List.nodup_cons.mp later).1⟩

/-- What only one task writes is what that task makes of what stood before. -/
theorem foldl_acts {β : Type} {f : State → ClockTask → State} {law : State → Prop} (g : State → β) {acting : ClockTask}
    {order : List ClockTask} (once : order.Nodup) (taken : acting ∈ order) (keeps : ∀ t x, law t → law (f t x))
    (others : ∀ t x, x ≠ acting → law t → g (f t x) = g t) (start : law s) :
    ∃ u, law u ∧ g u = g s ∧ g (order.foldl f s) = g (f u acting) := by
  have still (xs : List ClockTask) (out : acting ∉ xs) : ∀ t, law t → law (xs.foldl f t) ∧ g (xs.foldl f t) = g t := by
    induction xs with
    | nil => exact fun t h => ⟨h, rfl⟩
    | cons x rest ih =>
      intro t h
      obtain ⟨apart, later⟩ := not_or.mp (List.mem_cons.not.mp out)
      obtain ⟨kept, same⟩ := ih later (f t x) (keeps t x h)
      exact ⟨kept, same.trans (others t x (Ne.symm apart) h)⟩
  obtain ⟨before, after, rfl, early, late⟩ := split_once once taken
  obtain ⟨kept, same⟩ := still before early s start
  refine ⟨before.foldl f s, kept, same, ?_⟩
  rw [List.foldl_append, List.foldl_cons]
  exact (still after late _ (keeps _ _ kept)).2

namespace Tests

variable {f : State → ClockTask → State} (tests : Tests f) {order : List ClockTask} (named : List ClockTask)
include tests

theorem all (s : State) (order : List ClockTask) : Tested s (order.foldl f s) :=
  foldl_state_keeps (law := Tested s) (fun t x h => h.trans (tests.tested t x)) order (.refl s)

/-- Every half has been judged once, against the clock as it stands (R25, R26). -/
theorem half (s : State) (k : Fin 16) (q : Parity) :
    ((takeOrder clockTasks named).foldl f s).half k q = (s.half k q).tested s.clock := by
  obtain ⟨u, law, keys, last⟩ := foldl_acts (s := s) (f := f) (law := Tested s) (·.keys) (takeOrder_nodup clockTasks named)
    (mem_takeOrder (mem_clockTasks .keyHalves)) (fun t x h => h.trans (tests.tested t x)) (fun t x other _ => tests.keys t x other)
    (.refl s)
  have halves : ((takeOrder clockTasks named).foldl f s).half k q = u.expireHalves.half k q := by
    rw [State.half, State.half, last, tests.keyHalves]
  rw [halves, State.half_expireHalves, State.half, State.half, keys, law.bars.clock]

/-- The rentals whose end the clock has reached have left the list, and no other (R123). -/
theorem indices (once : (s.rentals.map (·.index)).Nodup) (set : s.clock.isSet = true) :
    ((takeOrder clockTasks named).foldl f s).rentals.map (·.index) =
      (s.rentals.filter (fun r => decide (s.clock.count < r.stop))).map (·.index) := by
  obtain ⟨u, law, dues, last⟩ := foldl_acts (s := s) (f := f) (law := Tested s) (fun t => t.rentals.map (fun r => (r.index, r.stop)))
    (takeOrder_nodup clockTasks named) (mem_takeOrder (mem_clockTasks .rentalEnds)) (fun t x h => h.trans (tests.tested t x))
    (fun t x other _ => tests.dues t x other) (.refl s)
  have clock := law.bars.clock
  have indices : u.rentals.map (·.index) = s.rentals.map (·.index) := by
    have firsts := congrArg (List.map Prod.fst) dues
    simpa [List.map_map, Function.comp_def] using firsts
  have expired := State.briefs_expireRentals (s := u) (indices ▸ once) (clock ▸ set)
  have listed := congrArg (List.map (fun b : Fin 8 × Nat × Nat => b.1)) expired
  have ends := congrArg (List.map Prod.fst) last
  have kept := congrArg (fun l => (l.filter (fun d => decide (s.clock.count < d.2))).map Prod.fst) dues
  simp only [List.map_map, List.filter_map, Function.comp_def, tests.rentalEnds, Rental.brief, clock] at listed ends kept
  exact (ends.trans listed).trans kept

/-- The period and the billed total are what the period's test makes of them (R101). -/
theorem period (s : State) : ∃ u, Tested s u ∧ u.billing = s.billing ∧
    ((takeOrder clockTasks named).foldl f s).billing = (f u .capPeriod).billing :=
  foldl_acts (s := s) (f := f) State.billing (takeOrder_nodup clockTasks named) (mem_takeOrder (mem_clockTasks .capPeriod))
    (fun t x h => h.trans (tests.tested t x)) (fun t x other _ => tests.billing t x other) (.refl s)

/-- What the windows' test brings about of a lane stands to the end (R54). -/
theorem windows {law : Lane → Prop} (rules : Rules s n law) (acts : ∀ t, Bars s t → law ((f t .windows).lane n)) :
    law (((takeOrder clockTasks named).foldl f s).lane n) := by
  refine (Rules.foldl (s := s) (t := s) (now := fun _ x => x = .windows) (fun t x bars => bars.trans (tests.tested t x).bars)
    (fun t x bars now => ?_) _ (.refl s) (.inl ⟨.windows, mem_takeOrder (mem_clockTasks _), fun _ _ => rfl⟩)).2
  obtain rfl | held := now
  · exact acts t bars
  · exact tests.rules rules t x bars held

end Tests

/-- Whatever the clock, the period that a rollover starts ends after it (R100, R101; log 35). -/
theorem lt_boundaryAfter_boundaryAtOrBefore {capReset : Nat} (low : capReset ≤ 86399) (t : Nat) :
    t < boundaryAfter (boundaryAtOrBefore t capReset) capReset := by
  obtain ⟨later, on, -⟩ := boundaryAfter_spec low t
  by_cases day : 86400 ≤ boundaryAfter t capReset
  · have start : boundaryAtOrBefore t capReset = boundaryAfter t capReset - 86400 := rfl
    rw [start, boundaryAfter_of_boundary (by omega)]
    omega
  · have start : boundaryAtOrBefore t capReset = 0 := Nat.sub_eq_zero_of_le (by unfold daySeconds; omega)
    have first : boundaryAfter t capReset = capReset := by omega
    rw [start, boundaryAfter, if_pos (by omega)]
    omega

end Sys2Proof.Machine
end

section
/-! PROOFS. The events that move the room clock: a second, and TIME_SET (R90, R175, R176). -/

namespace Sys2Proof.Machine

variable {s t u : State} {n m : Screen}

/-! ### The tests' results -/

theorem KeyHalf.tested_of_set {h : KeyHalf} {c : ClockUnit} (set : c.isSet = true) :
    h.tested c = if h.state ≠ .empty ∧ h.validUntil ≤ c.count then ⟨.empty, 0, 0, 0⟩ else h := by
  unfold KeyHalf.tested
  simp only [set, true_and]
  rfl

theorem State.periodTest_of_due {p : CapWindow} (set : s.clock.isSet = true) (period : s.room.period = some p)
    (due : p.stop ≤ s.clock.count) : s.periodTest = s.rollover :=
  if_pos (by simp [State.periodDue, set, period, due])

/-- No period whose end is reached is left (R101). -/
theorem State.periodTest_stop (set : s.clock.isSet = true) (low : s.room.terms.capReset ≤ 86399) :
    ∀ p ∈ s.periodTest.room.period, s.clock.count < p.stop := by
  intro p held
  by_cases due : ∃ q ∈ s.room.period, q.stop ≤ s.clock.count
  · obtain ⟨q, period, reached⟩ := due
    have started : s.rollover.room.period = some (capWindowFrom (boundaryAtOrBefore s.clock.count s.room.terms.capReset)
        s.room.terms.capReset) := rfl
    rw [State.periodTest_of_due set period reached, started] at held
    obtain rfl := Option.some.inj held
    exact lt_boundaryAfter_boundaryAtOrBefore low _
  · have idle : ∀ q ∈ s.room.period, s.clock.count < q.stop := fun q period =>
      Nat.lt_of_not_le fun reached => due ⟨q, period, reached⟩
    rw [State.periodTest_of_not_due idle] at held
    exact idle p held

/-- A running period that has ended rolls over, any other stands (R100, R101). -/
theorem State.setPeriod_of_running {p : CapWindow} (period : s.room.period = some p) : s.setPeriod = s.periodTest :=
  if_neg (by simp [period])

theorem State.setPeriod_of_pending (pending : s.room.period = none) (set : s.clock.isSet = true) :
    s.setPeriod.room.period = some ⟨s.clock.count, boundaryAfter s.clock.count s.room.terms.capReset⟩ := by
  rw [State.setPeriod, if_pos (by simp [pending]), State.startPeriod, if_pos (by simp [pending, set])]
  rfl

/-! ### Metering -/

/-- Every rental of t is one of s, as far as its index and its viewed seconds go. -/
def Carried (s t : State) : Prop := ∀ x ∈ t.rentals, ∃ r ∈ s.rentals, r.index = x.index ∧ r.viewed = x.viewed

theorem Carried.of_briefs (h : t.briefs ⊆ s.briefs) : Carried s t := by
  intro x held
  obtain ⟨r, was, same⟩ := List.mem_map.mp (h (List.mem_map_of_mem held))
  simp only [Rental.brief, Prod.mk.injEq] at same
  obtain ⟨index, -, viewed⟩ := same
  exact ⟨r, was, index, viewed⟩

theorem Carried.trans (h : Carried s t) (k : Carried t u) : Carried s u := by
  intro x held
  obtain ⟨y, mid, index, viewed⟩ := k x held
  obtain ⟨r, was, index', viewed'⟩ := h y mid
  exact ⟨r, was, index'.trans index, viewed'.trans viewed⟩

/-- Only metering counts a viewed second (R121). -/
theorem Carried.secondTask (s : State) {x : ClockTask} (other : x ≠ .metering) : Carried s (s.secondTask x) := by
  refine .of_briefs ?_
  cases x with
  | metering => exact absurd rfl other
  | keyHalves =>
    show s.expireHalves.briefs ⊆ _
    rw [s.expireHalves_only]
    exact List.Subset.refl _
  | rentalEnds =>
    show s.expireRentals.briefs ⊆ _
    rw [State.expireRentals, State.briefs_endRentals]
    exact List.filter_sublist.subset
  | capPeriod =>
    show s.periodTest.briefs ⊆ _
    rw [s.periodTest_only.1]
    exact List.Subset.refl _
  | windows =>
    show (screens.foldl State.admitOnEdge s).briefs ⊆ _
    rw [(Viewing.windows s).briefs]
    exact List.Subset.refl _
  | clockNotice => exact List.Subset.refl _

theorem Carried.secondTasks {order : List ClockTask} (out : .metering ∉ order) (s : State) :
    Carried s (order.foldl State.secondTask s) := by
  induction order generalizing s with
  | nil => exact fun x held => ⟨x, held, rfl, rfl⟩
  | cons x rest ih =>
    obtain ⟨apart, later⟩ := not_or.mp (List.mem_cons.not.mp out)
    exact (Carried.secondTask s (Ne.symm apart)).trans (ih later _)

theorem takeOrder_head {order : List ClockTask} (first : order = [] ∨ order.head? = some .metering) :
    ∃ rest, takeOrder clockTasks order = .metering :: rest := by
  obtain rfl | first := first
  · exact ⟨_, List.eraseDups_cons⟩
  · obtain ⟨tail, rfl⟩ := List.head?_eq_some_iff.mp first
    exact ⟨_, List.eraseDups_cons⟩

/-- A rental that stays is metered at most once, and by its holders where metering comes first (R121; log 4). -/
theorem State.viewed_second (once : (s.rentals.map (·.index)).Nodup) (order : List ClockTask) :
    ∀ r ∈ s.rentals, ∀ x ∈ ((takeOrder clockTasks order).foldl State.secondTask s).rentals, x.index = r.index →
      (x.viewed = r.viewed ∨ x.viewed = min (r.viewed + 1) 172800) ∧
      (order = [] ∨ order.head? = some .metering →
        x.viewed = if r.seats = [] then r.viewed else min (r.viewed + 1) 172800) := by
  intro r held x last index
  obtain ⟨before, after, split, early, late⟩ :=
    split_once (takeOrder_nodup clockTasks order) (mem_takeOrder (mem_clockTasks .metering))
  rw [split, List.foldl_append, List.foldl_cons] at last
  obtain ⟨y, metered, yIndex, yViewed⟩ := Carried.secondTasks late _ x last
  obtain ⟨z, unmetered, rfl⟩ := List.mem_map.mp metered
  obtain ⟨q, was, qIndex, qViewed⟩ := Carried.secondTasks early s z unmetered
  have same : q = r := by
    refine List.inj_on_of_nodup_map once was held (qIndex.trans (Eq.trans ?_ (yIndex.trans index)))
    split <;> rfl
  subst same
  refine ⟨?_, fun first => ?_⟩
  · rw [← yViewed]
    split
    · exact .inl qViewed.symm
    · exact .inr (by rw [qViewed])
  · obtain ⟨rest, head⟩ := takeOrder_head first
    have none : before = [] := by
      cases before with
      | nil => rfl
      | cons a more =>
        rw [split, List.cons_append] at head
        exact absurd (List.cons.inj head).1.symm (not_or.mp (List.mem_cons.not.mp early)).1
    subst none
    have one : z = q := List.inj_on_of_nodup_map once unmetered was qIndex.symm
    rw [← yViewed, one]
    split <;> rfl

/-! ### A room-clock second -/

theorem Rules.secondTask_windows {law : Lane → Prop} (h : Rules s n law) (edge : s.laneOnEdge n = true) (bars : Bars s t) :
    law ((t.secondTask .windows).lane n) := by
  have admitted := h.admitOnEdge bars (.inl edge)
  rw [show t.secondTask .windows = screens.foldl State.admitOnEdge t from rfl]
  exact admitted

/-- The state in which the tests of a room-clock second are made (R90). -/
def State.nextSecond (s : State) : State := { s with clock := { s.clock with count := s.clock.count + 1 } }

theorem exec_roomClockSecond {order : List ClockTask} (powered : s.powered = true) (set : s.clock.isSet = true)
    (low : s.clock.count < 4294967295) :
    exec (.roomClockSecond order) s = .next ((takeOrder clockTasks order).foldl State.secondTask s.nextSecond) := by
  refine congrArg Host.Outcome.next ?_
  rw [State.roomSecond, if_pos (by simpa [ClockUnit.counts, set] using low)]
  exact if_pos powered

/-- Settles O29: each test's result stands whatever is tested before and after it. -/
theorem aRoomClockSecondMakesEveryTest : Obligations.ARoomClockSecondMakesEveryTest := by
  intro s order powered set low once reset
  have clock : s.nextSecond.clock = { s.clock with count := s.clock.count + 1 } := rfl
  have same : s.nextSecond.half = s.half ∧ s.nextSecond.rentals = s.rentals ∧ s.nextSecond.room = s.room ∧
      s.nextSecond.lane = s.lane ∧ s.nextSecond.entry = s.entry ∧ s.nextSecond.ceiling = s.ceiling := ⟨rfl, rfl, rfl, rfl, rfl, rfl⟩
  have stands : s.nextSecond.charges = s.charges ∧ s.nextSecond.lock = s.lock ∧ s.nextSecond.lineup = s.lineup ∧
      s.nextSecond.line = s.line ∧ s.nextSecond.link = s.link := ⟨rfl, rfl, rfl, rfl, rfl⟩
  refine ⟨_, exec_roomClockSecond powered set low, ?_⟩
  generalize s.nextSecond = v at clock same stands
  obtain ⟨halves, rentals, room, lanes, entries, ceilings⟩ := same
  obtain ⟨charges, lock, lineup, line, link⟩ := stands
  have setNow : v.clock.isSet = true := by rw [clock]; exact set
  have count : v.clock.count = s.clock.count + 1 := by rw [clock]
  have tested := tests_second.all v (takeOrder clockTasks order)
  refine ⟨tested.bars.clock.trans clock, fun slot p => ?_, ?_, ?_, fun n => ⟨?_, fun e entry w window width occupied => ⟨?_, ?_⟩⟩, ?_,
    tested.charges.trans charges, tested.bars.lock.trans lock, tested.lineup.trans lineup, tested.line.trans line, ?_⟩
  · rw [tests_second.half, KeyHalf.tested_of_set setNow, halves, count]
  · rw [tests_second.indices order (rentals ▸ once) setNow, rentals, count]
  · obtain ⟨u, law, -, last⟩ := tests_second.period order v
    have stop := State.periodTest_stop (s := u) (law.bars.clock ▸ setNow) (by rw [law.bars.terms, room]; exact reset)
    rw [law.bars.clock, count] at stop
    intro p held
    exact stop p ((congrArg Prod.fst last).symm.trans held)
  · rw [tested.bars.settings, lanes]
  · intro ends running adult passes
    obtain ⟨service, tuned, found⟩ := Option.bind_eq_some_iff.mp entry
    rw [← lanes] at tuned running passes
    rw [← entries] at found
    rw [← ceilings] at passes
    have barred := State.bar_offAir tuned running found (room ▸ occupied) adult passes window
      (by simp [ClockUnit.within, count, ends])
    have edge := State.laneOnEdge_of_window tuned found window setNow (.inr (count.trans ends))
    have shut := tests_second.windows order (Rules.shut barred) fun t => (Rules.shut barred).secondTask_windows edge
    exact ⟨shut.state, shut.standing, shut.previewEnd⟩
  · intro starts
    obtain ⟨service, tuned, found⟩ := Option.bind_eq_some_iff.mp entry
    rw [← lanes] at tuned
    rw [← entries] at found
    have edge := State.laneOnEdge_of_window tuned found window setNow (.inl (count.trans starts))
    have air : v.bar n ≠ some .offAir := State.bar_ne_offAir tuned found fun w' own => by
      obtain rfl := Option.some.inj (Eq.trans window.symm own)
      exact ClockUnit.within_eq_true.mpr ⟨setNow, by omega, by omega⟩
    have rules := Rules.free air ⟨nofun, nofun⟩
    exact tests_second.windows order rules fun t => rules.secondTask_windows edge
  · have viewed := State.viewed_second (s := v) (rentals ▸ once) order
    rwa [rentals] at viewed
  · have notices := tested.notices
    rwa [OnlyNotices, link] at notices

/-! ### TIME_SET -/

theorem State.link_clearStandings (s : State) (lanes : List Screen) : (s.clearStandings lanes).link = s.link := by
  induction lanes generalizing s with
  | nil => rfl
  | cons w rest ih => exact ih _

theorem Shows.admitTuned {p : NoticePair} {v : Snapshot} (h : Shows s p v) (other : p.notOfLane) (service : Nat)
    (order : List Screen) : Shows (s.admitTuned service order) p v :=
  foldl_state_keeps (law := fun u => Shows u p v) (fun u m h => by
    unfold State.admitIfTuned
    split
    · exact h.admitAs other m _
    · exact h) order h

/-- The end of a rental raises notices of lanes and RENTALS alone (R61, R122). -/
theorem Shows.endRental {p : NoticePair} {v : Snapshot} (h : Shows s p v) (other : p.notOfLane) (rentals : p ≠ .rentals)
    (index : Fin 8) : Shows (s.endRental index) p v := by
  cases held : s.rentalAt index with
  | none => rwa [State.endRental_none s index held]
  | some r =>
    rw [State.endRental_eq held]
    have cleared : Shows (s.unrent r) p v := by
      rw [Shows, State.unrent, State.link_clearStandings]
      exact h
    generalize s.unrent r = u at cleared
    have admitted := cleared.admitTuned other r.service screens
    generalize u.admitTuned r.service screens = w at admitted
    exact Shows.raise (q := .rentals) admitted rentals _ _

theorem Shows.endRentals {p : NoticePair} {v : Snapshot} (h : Shows s p v) (other : p.notOfLane) (rentals : p ≠ .rentals)
    (indices : List (Fin 8)) : Shows (s.endRentals indices) p v :=
  foldl_state_keeps (law := fun u => Shows u p v) (fun _ i h => h.endRental other rentals i) indices h

/-- The CLOCK notice outlasts every test (R176, R189). -/
theorem Shows.setTask {v : Snapshot} (h : Shows s .clock v) (jump : Jump) {x : ClockTask}
    (other : x ≠ .clockNotice) : Shows (s.setTask jump x) .clock v := by
  cases x with
  | metering => exact h
  | keyHalves =>
    show Shows s.expireHalves _ _
    rw [s.expireHalves_only]
    exact h
  | rentalEnds =>
    rw [show s.setTask jump .rentalEnds = s.expireRentals from rfl, State.expireRentals]
    exact h.endRentals (fun _ => nofun) nofun _
  | capPeriod =>
    rw [show s.setTask jump .capPeriod = s.setPeriod from rfl]
    unfold State.setPeriod
    split
    · rw [s.startPeriod_eq]
      exact h
    · unfold State.periodTest
      split
      · exact Shows.raise (s := { s with room := _ }) (q := .room) h nofun _ _
      · exact h
  | windows => exact h.admitEach (fun _ => nofun) _
  | clockNotice => exact absurd rfl other

/-- The CLOCK notice of a TIME_SET tells how the clock moved (R176). -/
theorem State.setTests_shows (s : State) (jump : Jump) (order : List ClockTask) (mode : s.link.modes.clock = .every) :
    Shows ((takeOrder clockTasks order).foldl (State.setTask jump) s) .clock (.clock s.clock.count jump) := by
  obtain ⟨before, after, split, early, late⟩ :=
    split_once (takeOrder_nodup clockTasks order) (mem_takeOrder (mem_clockTasks .clockNotice))
  rw [split, List.foldl_append, List.foldl_cons]
  have tested := (tests_set jump).all s before
  have modes := tested.notices
  have clock := tested.bars.clock
  generalize before.foldl (State.setTask jump) s = u at modes clock
  have modeNow : u.link.modes.of .clock = .every := by
    rw [modes]
    exact mode
  have shown : Shows (u.setTask jump .clockNotice) .clock (.clock s.clock.count jump) := by
    rw [← clock]
    exact State.raise_shows_of_every modeNow _ _
  clear split
  generalize u.setTask jump .clockNotice = v at shown
  induction after generalizing v with
  | nil => exact shown
  | cons x rest ih =>
    obtain ⟨apart, later⟩ := not_or.mp (List.mem_cons.not.mp late)
    exact ih later _ (shown.setTask jump (Ne.symm apart))

/-- The state in which the tests of a TIME_SET are made (R175). -/
def State.atTime (s : State) (t : Nat) : State := { s with clock := { s.clock with isSet := true, count := t } }

theorem State.setTime_eq (s : State) (t : Nat) (order : List ClockTask) :
    s.setTime t order = (takeOrder clockTasks order).foldl (State.setTask (s.clock.jumpTo t)) (s.atTime t) := rfl

theorem field_beBytes_whole {n len : Nat} (fits : n < 256 ^ len) : field (beBytes len n) 0 len = n := by
  have whole := field_beBytes fits [] []
  rwa [List.nil_append, List.append_nil] at whole

/-- What a TIME_SET comes to, for the part that has heard its frame (R175, R176). -/
theorem State.setTime_tests (s : State) (v : Nat) (order : List ClockTask) :
    ∃ f, Tests f ∧ (∀ t, f t .windows = t.admitAll) ∧ (∀ t, f t .capPeriod = t.setPeriod) ∧
      s.setTime v order = (takeOrder clockTasks order).foldl f (s.atTime v) ∧
      (s.link.modes.clock = .every → Shows (s.setTime v order) .clock (.clock v (s.clock.jumpTo v))) :=
  ⟨_, tests_set (s.clock.jumpTo v), fun _ => rfl, fun _ => rfl, rfl, fun mode => State.setTests_shows (s.atTime v) _ order mode⟩

/-- Settles O33: the tests of O29's kind, with every tuned lane admitted. -/
theorem timeSetMakesEveryTest : Obligations.TimeSetMakesEveryTest := by
  intro s address v order here fits once reset
  obtain ⟨f, tests, windows, capPeriod, run, shows⟩ := s.hearFrame.setTime_tests v order
  have tested := tests.all (s.hearFrame.atTime v) (takeOrder clockTasks order)
  rw [← run] at tested
  have acts : s.hearFrame.plAct .timeSet (beBytes 4 v) order = (s.hearFrame.setTime v order, .none) := by
    rw [State.plAct, field_beBytes_whole (by omega)]
  obtain ⟨t, done, took, latched, frame⟩ := State.plCommand_took here (kind := .timeSet) rfl (length_beBytes 4 v) acts
    (by rw [tested.line]; rfl)
  have heard := s.hearFrame_frame
  have room := s.hearFrame_room
  have charges := s.hearFrame_charges
  have lanes : s.hearFrame.lane = s.lane ∧ s.hearFrame.rentals = s.rentals ∧ s.hearFrame.lock = s.lock := by
    rw [s.hearFrame_eq]
    exact ⟨rfl, rfl, rfl⟩
  have notices := s.hearFrame_onlyNotices
  have flags := s.hearFrame_latched
  refine ⟨t, congrArg Host.Outcome.next done, took, ?_⟩
  generalize s.hearFrame = h at *
  obtain ⟨-, -, clock, lineup, prices, keys, -, -⟩ := heard
  obtain ⟨lane, rentals, lock⟩ := lanes
  have at_ : (h.atTime v).clock = ⟨true, v, s.clock.run⟩ := by rw [← clock]; rfl
  have same : (h.atTime v).half = s.half ∧ (h.atTime v).rentals = s.rentals ∧ (h.atTime v).room = s.room ∧
      (h.atTime v).lane = s.lane ∧ (h.atTime v).entry = s.entry ∧ (h.atTime v).ceiling = s.ceiling :=
    ⟨funext fun k => funext fun q => by rw [State.half, State.half, ← keys]; rfl, rentals, room, lane,
      funext fun service => by rw [State.entry, State.entry, ← lineup]; rfl,
      funext fun n => by rw [State.ceiling, State.ceiling, ← lock]; rfl⟩
  have stands : (h.atTime v).charges = s.charges ∧ (h.atTime v).lock = s.lock ∧ (h.atTime v).lineup = s.lineup ∧
      (h.atTime v).prices = s.prices ∧ OnlyNotices s (h.atTime v) ∧ (h.atTime v).line = h.line :=
    ⟨charges, lock, lineup, prices, notices, rfl⟩
  have modes : h.link.modes = s.link.modes := by rw [notices]
  generalize h.atTime v = w at *
  obtain ⟨halves, rentals', room', lanes', entries, ceilings⟩ := same
  obtain ⟨charges', lock', lineup', prices', notices', line⟩ := stands
  have set : w.clock.isSet = true := by rw [at_]
  have count : w.clock.count = v := by rw [at_]
  have half := fun k q => tests.half order w k q
  have indices := tests.indices (s := w) order (by rw [rentals']; exact once) set
  obtain ⟨u, law, before, billing⟩ := tests.period order w
  have windowsTest (n : Screen) {laneLaw : Lane → Prop} (rules : Rules w n laneLaw) : laneLaw ((h.setTime v order).lane n) := by
    rw [run]
    exact tests.windows order rules fun t bars => by
      have admitted := rules.admitAll bars
      rwa [← windows] at admitted
  rw [← run] at indices billing half
  generalize h.setTime v order = x at *
  have tLane : t.lane = x.lane ∧ t.half = x.half ∧ t.rentals = x.rentals ∧ t.room = x.room ∧ t.link = x.link ∧ t.clock = x.clock ∧
      t.charges = x.charges ∧ t.lock = x.lock ∧ t.lineup = x.lineup ∧ t.prices = x.prices := by
    rw [frame]
    exact ⟨rfl, rfl, rfl, rfl, rfl, rfl, rfl, rfl, rfl, rfl⟩
  obtain ⟨tLane, tHalf, tRentals, tRoom, tLink, tClock, tCharges, tLock, tLineup, tPrices⟩ := tLane
  have uCount : u.clock.count = v := by rw [law.bars.clock, count]
  have uSet : u.clock.isSet = true := by rw [law.bars.clock, set]
  have uTerms : u.room.terms.capReset = s.room.terms.capReset := by rw [law.bars.terms, room']
  simp only [State.billing, Prod.mk.injEq, capPeriod] at before billing
  obtain ⟨uPeriod, uBilled⟩ := before
  obtain ⟨period, billed⟩ := billing
  rw [room'] at uPeriod uBilled
  refine ⟨?_, ?_, fun k q => ?_, ?_, fun pending => ?_, fun p running later => ?_, fun p running reached => ?_,
    fun n => ⟨?_, fun e entry w' window occupied => ⟨?_, ?_⟩⟩, ?_, ?_, ?_, ?_, ?_, ?_⟩
  · rw [tClock, tested.bars.clock, at_]
  · rw [latched, tested.line, line, flags]
  · rw [tHalf, half, KeyHalf.tested_of_set set, halves, count]
  · rw [tRentals, indices, rentals', count]
  · rw [tRoom, period, State.setPeriod_of_pending (uPeriod.trans pending) uSet, uCount, uTerms]
  · have own := uPeriod.trans running
    have idle : u.periodTest = u := State.periodTest_of_not_due fun q held => by
      obtain rfl := Option.some.inj (own.symm.trans held)
      rw [uCount]
      exact later
    rw [tRoom, period, billed, State.setPeriod_of_running own, idle, own, uBilled]
    exact ⟨rfl, rfl⟩
  · have own := uPeriod.trans running
    have ended := State.setPeriod_of_running own
    have stop := State.periodTest_stop uSet (uTerms ▸ reset)
    rw [tRoom, period, billed, ended]
    refine ⟨?_, fun q held => uCount ▸ stop q held⟩
    rw [State.periodTest_of_due uSet own (uCount ▸ reached)]
    rfl
  · rw [tLane, tested.bars.settings, lanes']
  · intro out running adult passes
    obtain ⟨service, tuned, found⟩ := Option.bind_eq_some_iff.mp entry
    rw [← lanes'] at tuned running passes
    rw [← entries] at found
    rw [← ceilings] at passes
    have barred := State.bar_offAir tuned running found (room' ▸ occupied) adult passes window (by
      rw [Bool.eq_false_iff]
      intro within
      obtain ⟨-, first, last⟩ := ClockUnit.within_eq_true.mp within
      omega)
    have shut := windowsTest n (Rules.shut barred)
    rw [tLane]
    exact ⟨shut.state, shut.standing, shut.previewEnd⟩
  · intro first last
    obtain ⟨service, tuned, found⟩ := Option.bind_eq_some_iff.mp entry
    rw [← lanes'] at tuned
    rw [← entries] at found
    have air : w.bar n ≠ some .offAir := State.bar_ne_offAir tuned found fun w'' own => by
      obtain rfl := Option.some.inj (Eq.trans window.symm own)
      exact ClockUnit.within_eq_true.mpr ⟨set, by omega, by omega⟩
    rw [tLane]
    exact windowsTest n (Rules.free air ⟨nofun, nofun⟩)
  · rw [tCharges, tested.charges, charges']
  · rw [tLock, tested.bars.lock, lock']
  · rw [tLineup, tested.lineup, lineup']
  · rw [tPrices, tested.prices, prices']
  · have all := notices'.trans tested.notices
    rwa [OnlyNotices, ← tLink] at all
  · intro mode
    have shown := shows (modes ▸ mode)
    rw [Shows, ← tLink] at shown
    have jump : h.clock.jumpTo v = (if s.clock.isSet = false then .first else if s.clock.count < v then .forward
        else if v < s.clock.count then .backward else .none) := by
      rw [clock, ClockUnit.jumpTo]
      simp only [Bool.not_eq_true]
    rw [← jump]
    exact shown

end Sys2Proof.Machine
end

section
/-! SUPPORT. Commands that a room has heard: what an event leaves outside the view stands as it was before the frame, and admissions
in a room that is not OCCUPIED begin no preview (R47, R50). -/

namespace Sys2Proof.Machine

variable {s t u x : State} {n m : Screen}

/-- What stays in view of the part that has heard a frame stays in view of the part before it, but for the line (R166). -/
theorem OnlyViewing.heard (h : OnlyViewing s.hearFrame x) : OnlyViewing s { x with line := s.line } := by
  obtain ⟨only, notices⟩ := h
  refine ⟨?_, OnlyNotices.trans s.hearFrame_onlyNotices notices⟩
  rw [s.hearFrame_eq] at only
  exact congrArg (fun x : State => { x with line := s.line }) only

/-- What a heard frame leaves (R166, R179). -/
theorem State.hearFrame_blocks (s : State) : s.hearFrame.lane = s.lane ∧ s.hearFrame.rentals = s.rentals ∧
    s.hearFrame.lock = s.lock ∧ s.hearFrame.room = s.room ∧ s.hearFrame.charges = s.charges := by
  rw [s.hearFrame_eq]
  exact ⟨rfl, rfl, rfl, rfl, rfl⟩

theorem State.hearFrame_modes (s : State) : s.hearFrame.link.modes = s.link.modes := by
  rw [s.hearFrame_onlyNotices]

/-- In a room that is not OCCUPIED an admission writes nothing of the room (R50). -/
theorem State.room_admitAll_of_closed {room : RoomRecord} (closed : room.occupancy ≠ .occupied) (same : s.room = room) :
    s.admitAll.room = room := by
  have settle (t : State) (m : Screen) (same : t.room = room) : (t.settle m (t.verdict m)).room = room := by
    have begins (k : Nat) : t.verdict m ≠ .previewStart k := fun begins =>
      closed (same ▸ (State.verdict_begins begins).occupied)
    exact (State.room_settle begins).trans same
  have admits (t : State) (m : Screen) (same : t.room = room) : (t.admitLane m).room = room :=
    admitLane_keeps (law := fun t => t.room = room) settle (fun _ _ _ same => same) m same
  unfold State.admitAll State.admitEach
  exact foldl_state_keeps (law := fun t => t.room = room) admits screens same

/-- The rating that a service's active entry gives (R2, R12). -/
theorem State.lineupRating_eq (s : State) (service : Nat) : s.lineupRating service = quadOf s.lineup.active service := by
  unfold State.lineupRating quadOf State.entry entryIn
  cases s.lineup.active.find? (fun e => e.service == service) <;> rfl

/-- A notice raised, seen by a state that has the same queue. -/
theorem Shows.of_link {p : NoticePair} {v : Snapshot} (h : Shows s p v) (link : t.link = s.link) : Shows t p v := by
  rw [Shows, link]
  exact h

/-- The ROOM notice of an event, which no mode holds back (R107, R191). -/
theorem State.raiseRoom_shows (s : State) : Shows s.raiseRoom .room (.room s.raiseRoom.roomView) :=
  State.raise_shows_of_every (p := .room) rfl _ _

/-- What the settings of a lane are made of. -/
theorem Lane.settings_eq {l k : Lane} : l.settings = k.settings ↔
    l.tuned = k.tuned ∧ l.keyMiss = k.keyMiss ∧ l.rating = k.rating ∧ l.shutdown = k.shutdown := by
  simp [Lane.settings]

end Sys2Proof.Machine
end

section
/-! PROOFS. A new line-up taken (R9 to R13). -/

namespace Sys2Proof.Machine

variable {s t : State} {n : Screen}

/-- The active table changed, before the lanes take its ratings (R10). -/
def State.withLineup (s : State) (generation : Nat) : State :=
  { s with lineup := ⟨s.lineup.standby, generation, .idle, [], false⟩ }

theorem State.acceptLineup_eq (s : State) (generation : Nat) :
    s.acceptLineup generation = ((s.withLineup generation).raiseLineup.resetRatings).admitAll := rfl

/-- A lane takes the rating of its service's entry (R12). -/
def Lane.rated (l : Lane) (s : State) : Lane := { l with rating := (l.tuned.map s.lineupRating).getD l.rating }

theorem Lane.rated_untuned {l : Lane} (untuned : l.tuned = none) : l.rated s = l := by
  obtain ⟨⟩ := l
  cases untuned
  rfl

theorem Lane.rated_tuned {l : Lane} {service : Nat} (tuned : l.tuned = some service) :
    l.rated s = { l with rating := s.lineupRating service } := by
  obtain ⟨⟩ := l
  cases tuned
  rfl

theorem Lane.rated_rated (l : Lane) (s : State) : (l.rated s).rated s = l.rated s := by
  unfold Lane.rated
  cases tuned : l.tuned <;> simp

theorem Lane.rated_congr (l : Lane) (active : t.lineup.active = s.lineup.active) : l.rated t = l.rated s := by
  have rating : t.lineupRating = s.lineupRating :=
    funext fun service => by rw [State.lineupRating_eq, State.lineupRating_eq, active]
  rw [Lane.rated, Lane.rated, rating]

/-- One lane's rating taken from the active table (R12). -/
def State.resetRating (s : State) (n : Screen) : State :=
  match (s.lane n).tuned with
  | none => s
  | some service => s.setLane n { s.lane n with rating := s.lineupRating service }

theorem State.lane_resetRating (s : State) (m n : Screen) :
    (s.resetRating m).lane n = if n = m then (s.lane n).rated s else s.lane n := by
  by_cases own : n = m
  · subst own
    rw [if_pos rfl]
    unfold State.resetRating
    split
    next untuned => exact (Lane.rated_untuned untuned).symm
    next service tuned => rw [State.lane_setLane_self, Lane.rated_tuned tuned]
  · rw [if_neg own]
    unfold State.resetRating
    split
    · rfl
    · exact State.lane_setLane_ne s own _

theorem State.resetRating_only (s : State) (m : Screen) : s.resetRating m = { s with lanes := (s.resetRating m).lanes } := by
  unfold State.resetRating
  split <;> rfl

/-- Every tuned lane takes the rating of its service's entry, and nothing else is written (R12). -/
theorem State.resetRatings_only (s : State) :
    s.resetRatings = { s with lanes := s.resetRatings.lanes } ∧ ∀ n, s.resetRatings.lane n = (s.lane n).rated s := by
  have folded : s.resetRatings = screens.foldl State.resetRating s := rfl
  have each (n : Screen) (some : List Screen) : ∀ t : State, t.lineup.active = s.lineup.active →
      (some.foldl State.resetRating t).lane n = if n ∈ some then (t.lane n).rated s else t.lane n := by
    induction some with
    | nil => exact fun _ _ => rfl
    | cons m rest ih =>
      intro t active
      have next : (t.resetRating m).lineup.active = s.lineup.active := by rw [t.resetRating_only m]; exact active
      rw [List.foldl_cons, ih _ next, State.lane_resetRating, Lane.rated_congr _ active]
      by_cases own : n = m
      · simp [own, Lane.rated_rated]
      · simp [own]
  rw [folded]
  refine ⟨foldl_state_keeps (law := fun t => t = { s with lanes := t.lanes }) (fun t m only => ?_) screens rfl,
    fun n => (each n screens s rfl).trans (if_pos (mem_screens n))⟩
  exact (t.resetRating_only m).trans (congrArg (fun x : State => { x with lanes := (t.resetRating m).lanes }) only)

/-- What an accepted line-up leaves, in order: the table and its notice, the lanes' ratings, and the admissions (R10, R12). -/
theorem State.acceptLineup_spec (s : State) (staged : Nat) :
    ∃ w, s.acceptLineup staged = w.admitAll ∧
      w = { s with lineup := ⟨s.lineup.standby, staged, .idle, [], false⟩, lanes := w.lanes, link := w.link } ∧
      OnlyNotices s w ∧ (∀ n, w.lane n = (s.lane n).rated w) ∧
      (s.link.modes.lineup = .every → Shows w .lineup (.lineup staged s.lineup.standby.length)) := by
  obtain ⟨only, lanes⟩ := (s.withLineup staged).raiseLineup.resetRatings_only
  have shows (mode : s.link.modes.lineup = .every) :
      Shows (s.withLineup staged).raiseLineup .lineup (.lineup staged s.lineup.standby.length) :=
    State.raise_shows_of_every (s := s.withLineup staged) (p := .lineup) mode _ _
  have raised : (s.withLineup staged).raiseLineup = { s with
      lineup := ⟨s.lineup.standby, staged, .idle, [], false⟩, link := (s.withLineup staged).raiseLineup.link } := rfl
  have notices : OnlyNotices s (s.withLineup staged).raiseLineup := rfl
  refine ⟨_, s.acceptLineup_eq staged, ?_⟩
  generalize (s.withLineup staged).raiseLineup = v at *
  generalize v.resetRatings = w at *
  have link : w.link = v.link := by rw [only]
  have lineup : w.lineup = v.lineup := by rw [only]
  refine ⟨?_, ?_, fun n => ?_, fun mode => (shows mode).of_link link⟩
  · rw [link]
    exact only.trans (congrArg (fun x : State => { x with lanes := w.lanes }) raised)
  · rw [OnlyNotices, link]
    exact notices
  · rw [lanes, Lane.rated_congr (s := v) (t := w) _ (by rw [lineup])]
    rw [raised]
    rfl

/-- A commit, by what its owner makes of it (R168, R169). -/
theorem State.exec_lineupCommit {address : BitVec 10} (here : s.AddressedBy address ∨ s.BroadcastBy address) {g hi lo : Byte}
    {u : State} (acts : s.hearFrame.commitLineup (max g.toNat 1) (hi.toNat * 256 + lo.toNat) = u)
    (line : u.line = { s.hearFrame.line with latched := u.line.latched }) :
    ∃ t, exec (.lineupCommit address [g, hi, lo]) s = .next t ∧ Took t address ∧
      t.line.latched = flagsAfter u.line.latched address ∧ t = { u with line := t.line } := by
  obtain ⟨t, done, parts⟩ := State.plCommand_took here (kind := .lineupCommit) (body := [g, hi, lo]) (order := []) rfl rfl
    (u := u) (by rw [← acts]; simp [State.plAct, generationOf, field, beNat]) line
  exact ⟨t, congrArg Host.Outcome.next done, parts⟩

/-- An accepted commit (R10, R12). -/
theorem State.lineup_accepted {address : BitVec 10} (here : s.AddressedBy address ∨ s.BroadcastBy address) {g hi lo : Byte}
    {staged : Nat} (filling : s.lineup.staging = .filling staged)
    (agrees : s.lineup.commits staged (max g.toNat 1) (hi.toNat * 256 + lo.toNat) = true) :
    ∃ t, exec (.lineupCommit address [g, hi, lo]) s = .next t ∧ Took t address ∧
      t.lineup = ⟨s.lineup.standby, staged, .idle, [], false⟩ ∧
      t.line.latched = flagsAfter s.line.latched address ∧
      (∀ n : Screen, (t.lane n).tuned = (s.lane n).tuned ∧ (t.lane n).keyMiss = (s.lane n).keyMiss ∧
        (t.lane n).shutdown = (s.lane n).shutdown ∧
        (∀ service ∈ (s.lane n).tuned, (t.lane n).rating = quadOf s.lineup.standby service) ∧
        (∀ service ∈ (s.lane n).tuned, (∀ x ∈ s.lineup.standby, x.service ≠ service) → (s.lane n).shutdown = false →
          (t.lane n).state = .blank .unknownService ∧ (t.lane n).standing = .none)) ∧
      t.rentals.map Rental.unseated = s.rentals.map Rental.unseated ∧
      OnlyViewing s { t with lineup := s.lineup, line := s.line } ∧
      (s.link.modes.lineup = .every → Shows t .lineup (.lineup staged s.lineup.standby.length)) := by
  have lineup := s.hearFrame_lineup
  obtain ⟨w, accepted, only, notices, rated, shows⟩ := s.hearFrame.acceptLineup_spec staged
  have view := Viewing.admitAll w
  have viewLine := view.line_eq
  have rules (n : Screen) (barred : w.bar n = some .unknownService) := (Rules.shut barred).admitAll (.refl w)
  have shown (mode : s.link.modes.lineup = .every) : Shows w.admitAll .lineup (.lineup staged s.lineup.standby.length) := by
    have raised := shows ((congrArg (·.lineup) s.hearFrame_modes).trans mode)
    rw [lineup] at raised
    exact raised.admitEach (fun _ => nofun) screens
  have acts : s.hearFrame.commitLineup (max g.toNat 1) (hi.toNat * 256 + lo.toNat) = w.admitAll := by
    rw [State.commitLineup, lineup, filling]
    exact (if_pos agrees).trans accepted
  have wLine : w.line = s.hearFrame.line := by rw [only]
  obtain ⟨t, done, took, latched, frame⟩ := State.exec_lineupCommit here acts (by rw [viewLine, wLine])
  refine ⟨t, done, took, ?_⟩
  obtain ⟨lanes, rentals, -, -, -⟩ := s.hearFrame_blocks
  rw [lanes] at rated
  rw [lineup] at only
  have flags := s.hearFrame_latched
  have heardView (x : State) := OnlyViewing.heard (s := s) (x := x)
  generalize s.hearFrame = h at lineup only wLine rentals notices flags heardView
  generalize w.admitAll = u at view viewLine rules shown frame latched
  have tLanes : t.lane = u.lane := by rw [frame]; rfl
  have tRentals : t.rentals = u.rentals := by rw [frame]
  have tLink : t.link = u.link := by rw [frame]
  have wRentals : w.rentals = s.rentals := by rw [only]; exact rentals
  have wActive : w.lineup = ⟨s.lineup.standby, staged, .idle, [], false⟩ := by rw [only]
  obtain ⟨-, -, -, uLineup, -⟩ := view.only.frame
  refine ⟨?_, ?_, fun n => ?_, ?_, ?_, fun mode => (shown mode).of_link tLink⟩
  · rw [frame]
    exact uLineup.trans wActive
  · rw [latched, viewLine, wLine, flags]
  · obtain ⟨tuned, keyMiss, rating, shutdown⟩ := Lane.settings_eq.mp ((view.settings n).trans (congrArg Lane.settings (rated n)))
    rw [tLanes]
    refine ⟨tuned, keyMiss, shutdown, fun service own => ?_, fun service own absent running => ?_⟩
    · rw [rating, Lane.rated_tuned own, State.lineupRating_eq, wActive]
    · have entry : w.entry service = none := by
        rw [State.entry, wActive]
        exact List.find?_eq_none.mpr fun x held => by simpa using absent x held
      have verdict : w.verdict n = .blank .unknownService :=
        State.verdict_unknown (by rw [rated]; exact own) (by rw [rated]; exact running) entry
      have shut := rules n (State.bar_of_verdict verdict nofun)
      exact ⟨shut.state, shut.standing⟩
  · rw [tRentals, view.unseated, wRentals]
  · have set : OnlyViewing h { u with lineup := h.lineup } := by
      obtain ⟨reached, raised⟩ := view.only
      refine ⟨?_, notices.trans raised⟩
      rw [only] at reached
      exact congrArg (fun x : State => { x with lineup := h.lineup }) reached
    have back := heardView _ set
    dsimp only at back
    rw [lineup] at back
    rw [frame]
    exact back

/-- Settles O39, by the staging state. -/
theorem aCommitChangesTheLineupWhole : Obligations.ACommitChangesTheLineupWhole := by
  intro s address g hi lo staged here
  have lineup := s.hearFrame_lineup
  have refused (acts : s.hearFrame.commitLineup (max g.toNat 1) (hi.toNat * 256 + lo.toNat) = s.hearFrame.refuseLineup) :
      ∃ t, exec (.lineupCommit address [g, hi, lo]) s = .next t ∧ Took t address ∧
        t.line.latched = flagsAfter { s.line.latched with lineupRefused := true } address ∧ HeardLink s t ∧
        t = { s with
          lineup := { s.lineup with standby := [], fault := false, staging := .idle }, line := t.line, link := t.link } := by
    obtain ⟨t, done, took, latched, frame⟩ := State.exec_lineupCommit here acts rfl
    have link : t.link = s.hearFrame.link := by rw [frame]; rfl
    refine ⟨t, done, took, ?_, ?_, ?_⟩
    · rw [latched]
      exact congrArg (fun l : Latched => flagsAfter { l with lineupRefused := true } address) s.hearFrame_latched
    · rw [HeardLink, OnlyNotices, link]
      exact s.hearFrame_heardLink
    · rw [link, frame, s.hearFrame_eq]
      rfl
  cases staging : s.lineup.staging with
  | idle =>
    obtain ⟨t, done, took, latched, frame⟩ := State.exec_lineupCommit here (u := s.hearFrame.latchMessageError) (g := g) (hi := hi)
      (lo := lo) (by rw [State.commitLineup, lineup, staging]) rfl
    have link : t.link = s.hearFrame.link := by rw [frame]; rfl
    refine ⟨t, done, took, nofun, ?_, fun _ => ⟨?_, ?_, ?_⟩⟩
    · rintro (full | ⟨filling, -⟩)
      · cases full
      · cases filling
    · rw [latched]
      exact congrArg (fun l : Latched => flagsAfter { l with messageError := true } address) s.hearFrame_latched
    · rw [HeardLink, OnlyNotices, link]
      exact s.hearFrame_heardLink
    · rw [link, frame, s.hearFrame_eq]
      rfl
  | overfull k =>
    obtain ⟨t, done, took, parts⟩ := refused (by rw [State.commitLineup, lineup, staging])
    exact ⟨t, done, took, nofun, fun _ => parts, nofun⟩
  | filling k =>
    by_cases agrees : s.lineup.commits k (max g.toNat 1) (hi.toNat * 256 + lo.toNat) = true
    · obtain ⟨t, done, took, parts⟩ := State.lineup_accepted here staging agrees
      simp only [LineupTable.commits, Bool.and_eq_true, decide_eq_true_eq, Bool.not_eq_true'] at agrees
      obtain ⟨⟨generation, count⟩, clear⟩ := agrees
      refine ⟨t, done, took, fun same _ _ _ => ?_, ?_, nofun⟩
      · cases same
        exact parts
      · rintro (full | ⟨same, other | other | fault⟩)
        · cases full
        · cases same
          exact absurd generation.symm other
        · exact absurd count.symm other
        · rw [clear] at fault
          cases fault
    · obtain ⟨t, done, took, parts⟩ := refused (by
        rw [State.commitLineup, lineup, staging]
        exact if_neg agrees)
      refine ⟨t, done, took, fun same generation count clear => absurd ?_ agrees, fun _ => parts, nofun⟩
      cases same
      simp [LineupTable.commits, generation, count, clear]

end Sys2Proof.Machine
end

section
/-! PROOFS. The stay (R92 to R99): a check-out, a check-in, and a stay refreshed. -/

namespace Sys2Proof.Machine

variable {s t u x : State} {n : Screen}

/-! ### Ends -/

theorem State.endRentals_tested (s : State) (indices : List (Fin 8)) : Tested s (s.endRentals indices) :=
  .of_viewing (s.endRentals_onlyViewing indices) (.endRentals s indices)

/-- The state in which a check-out admits its lanes: the rentals and the unlocks ended and the room closed (R96). -/
def State.closing (s : State) : State :=
  { s.endAllRentals.dropUnlocks with room := s.endAllRentals.dropUnlocks.closedRoom }

theorem State.closeStay_eq (s : State) : s.closeStay = s.closing.admitAll.raiseRoom := rfl

theorem State.unlockOf_of_dropped (unlocks : s.lock.unlocks = Vector.replicate 4 none) (n : Screen) : s.unlockOf n = none := by
  rw [State.unlockOf, unlocks]
  exact get_replicate ..

/-- What a check-out has done before its lanes are admitted (R96). -/
theorem State.closing_spec (s : State) :
    Frame s s.closing ∧ s.closing.lock = { s.lock with unlocks := Vector.replicate 4 none } ∧
      s.closing.room = { s.room with
        terms := { s.room.terms with adult := false, packages := 0 }, previewUsed := []
        occupancy := if s.charges.entries = [] then .vacant else .closing } ∧
      s.closing.charges = s.charges ∧ s.closing.line = s.line ∧ OnlyNotices s s.closing ∧
      (∀ n, (s.closing.lane n).settings = (s.lane n).settings) ∧ s.closing.rentals = [] := by
  have only := s.endRentals_onlyViewing (s.rentals.map (·.index))
  have bars := Bars.endRentals s (s.rentals.map (·.index))
  have empty := s.rentals_endAllRentals
  rw [State.closing]
  rw [State.endAllRentals] at empty ⊢
  generalize s.endRentals (s.rentals.map (·.index)) = u at only bars empty
  obtain ⟨lock, charges, line, room, notices⟩ := only.stands
  refine ⟨only.frame, ?_, ?_, charges, line, notices, bars.settings, empty⟩
  · exact congrArg (fun l : LockUnit => { l with unlocks := Vector.replicate 4 none }) lock
  · show u.dropUnlocks.closedRoom = _
    show { u.room with
      terms := { u.room.terms with adult := false, packages := 0 }, previewUsed := []
      occupancy := if u.charges.entries = [] then .vacant else .closing } = _
    rw [charges, room]

/-- What a check-out leaves (R96, R97). -/
theorem State.closeStay_spec (s : State) :
    Frame s s.closeStay ∧ s.closeStay.lock = { s.lock with unlocks := Vector.replicate 4 none } ∧
      s.closeStay.room = { s.room with
        terms := { s.room.terms with adult := false, packages := 0 }, previewUsed := []
        occupancy := if s.charges.entries = [] then .vacant else .closing } ∧
      s.closeStay.charges = s.charges ∧ s.closeStay.line = s.line ∧ OnlyNotices s s.closeStay ∧
      (∀ n, (s.closeStay.lane n).settings = (s.lane n).settings) ∧ s.closeStay.rentals = [] ∧
      Shows s.closeStay .room (.room s.closeStay.roomView) ∧
      ∀ n service e, (s.lane n).tuned = some service → s.entry service = some e → e.terms.code ≠ 0 →
        (s.lane n).shutdown = false → Lane.Shut .vacant (s.closeStay.lane n) := by
  obtain ⟨frame, lock, room, charges, line, notices, settings, empty⟩ := s.closing_spec
  have closed : s.closing.room.occupancy ≠ .occupied := by
    rw [room]
    dsimp only
    split <;> nofun
  have roomNow := State.room_admitAll_of_closed closed rfl
  have view := Viewing.admitAll s.closing
  have rules (n : Screen) (barred : s.closing.bar n = some .vacant) := (Rules.shut barred).admitAll (.refl s.closing)
  have shows := s.closing.admitAll.raiseRoom_shows
  have raised := Viewing.raise s.closing.admitAll .room (.room s.closing.admitAll.roomView) false
  have lanes : s.closeStay.lane = s.closing.admitAll.lane ∧ s.closeStay.room = s.closing.admitAll.room := by
    rw [s.closeStay_eq]
    generalize s.closing.admitAll = v
    exact ⟨rfl, rfl⟩
  obtain ⟨laneNow, roomStands⟩ := lanes
  have all : Viewing s.closing s.closeStay := view.trans raised
  rw [← s.closeStay_eq] at shows
  rw [← laneNow] at rules
  rw [← roomStands] at roomNow
  clear raised view roomStands laneNow
  generalize s.closeStay = y at *
  generalize s.closing = w at *
  obtain ⟨lock', charges', line', -, notices'⟩ := all.only.stands
  refine ⟨frame.trans all.only.frame, lock'.trans lock, roomNow.trans room, charges'.trans charges, line'.trans line,
    notices.trans notices', fun n => (all.settings n).trans (settings n), ?_, shows,
    fun n service e tuned entry code running => rules n (State.bar_of_verdict ?_ nofun)⟩
  · exact all.rentals_nil empty
  · obtain ⟨-, -, -, lineup, -⟩ := frame
    obtain ⟨ownTuned, -, -, shutdown⟩ := Lane.settings_eq.mp (settings n)
    have notFree : e.terms.isFree = false := by
      cases terms : e.terms with
      | free => simp [terms, Terms.code] at code
      | _ => rfl
    rw [State.verdict_of_entry (ownTuned.trans tuned) (shutdown.trans running) (e := e) (by
      rw [State.entry, lineup]
      exact entry)]
    exact if_pos ⟨closed, by simp [notFree]⟩

/-- Settles O44. -/
theorem aCheckOutClosesTheStay : Obligations.ACheckOutClosesTheStay := by
  intro s address here
  refine ⟨fun occupied => ?_, fun closed => ?_⟩
  · obtain ⟨frame, lock, room, charges, line, notices, settings, empty, shows, vacant⟩ := s.hearFrame.closeStay_spec
    have acts : s.hearFrame.plAct .checkOut [] [] = (s.hearFrame.closeStay, .none) := by
      rw [State.plAct, State.checkOutRoom, if_pos (by rw [s.hearFrame_room]; exact occupied)]
    obtain ⟨t, done, answered, latched, only⟩ := exec_answered here (kind := .checkOut) rfl acts (by rw [line])
    refine ⟨t, done, answered, ?_⟩
    obtain ⟨lanes, -, lockWas, roomWas, chargesWas⟩ := s.hearFrame_blocks
    have heard := s.hearFrame_frame
    have heardNotices := s.hearFrame_onlyNotices
    have flags := s.hearFrame_latched
    generalize s.hearFrame = h at *
    generalize h.closeStay = x at *
    rw [lanes] at settings vacant
    rw [roomWas, chargesWas] at room
    have entry : h.entry = s.entry := by
      obtain ⟨-, -, -, lineup, -⟩ := heard
      funext service
      rw [State.entry, lineup]
      rfl
    have tLane : t.lane = x.lane ∧ t.unlockOf = x.unlockOf ∧ t.rentals = x.rentals ∧ t.room = x.room ∧ t.charges = x.charges ∧
        t.lock = x.lock ∧ t.link = x.link ∧ t.roomView = x.roomView := by
      rw [only]
      exact ⟨rfl, rfl, rfl, rfl, rfl, rfl, rfl, rfl⟩
    obtain ⟨tLane, tUnlock, tRentals, tRoom, tCharges, tLock, tLink, tView⟩ := tLane
    refine ⟨?_, tRoom.trans room, tRentals.trans empty, ?_, ?_, fun n => ⟨?_, ?_, fun e found code running => ?_⟩, ?_, ?_⟩
    · rw [latched, line, flags]
    · rw [tCharges, charges, chargesWas]
    · rw [tLock, lock, lockWas]
    · exact State.unlockOf_of_dropped (by rw [tLock, lock]) n
    · rw [tLane, settings]
    · obtain ⟨service, tuned, own⟩ := Option.bind_eq_some_iff.mp found
      have shut := vacant n service e tuned ((congrFun entry service).trans own) code running
      rw [tLane]
      exact ⟨shut.state, shut.standing, shut.previewEnd⟩
    · have tFrame : Frame x t := by
        rw [only]
        exact ⟨rfl, rfl, rfl, rfl, rfl, rfl, rfl, rfl⟩
      have whole := (heard.trans frame).trans tFrame
      have tNotices : OnlyNotices s t := by
        have both := OnlyNotices.trans heardNotices notices
        rwa [OnlyNotices, ← tLink] at both
      exact Frame.onlyViewing (t := { t with room := s.room, lock := s.lock, line := s.line }) whole rfl
        ((tCharges.trans charges).trans chargesWas) rfl rfl tNotices
    · rw [tView]
      exact shows.of_link tLink
  · exact exec_answered_unchanged here (kind := .checkOut) nofun rfl (by
      rw [State.plAct, State.checkOutRoom, if_neg (by rw [s.hearFrame_room]; exact closed)])

/-! ### A stay opened -/

/-- The state in which a check-in admits its lanes (R92). -/
def State.opening (s : State) (c : CheckIn) : State :=
  ({ s with room := s.openedRoom c, lock := { s.lock with ceilings := Vector.replicate 4 c.ceilings } } :
    State).dropUnlocks.storePin c.pin

theorem State.openStay_eq (s : State) (c : CheckIn) : s.openStay c = (s.opening c).admitAll.raiseRoom := rfl

/-- The Lock Unit of a stay just opened (R92). -/
def LockUnit.opened (l : LockUnit) (c : CheckIn) : LockUnit :=
  { l with
    pin := c.pin, failures := 0, lockout := false, lockoutEnd := none
    ceilings := Vector.replicate 4 c.ceilings, unlocks := Vector.replicate 4 none }

/-- What a check-in that opens a stay leaves (R92). -/
theorem State.openStay_spec (s : State) (c : CheckIn) (empty : s.rentals = []) :
    Frame s (s.openStay c) ∧ (s.openStay c).lock = s.lock.opened c ∧
      (s.openStay c).room = { s.openedRoom c with previewUsed := (s.openStay c).room.previewUsed } ∧
      (s.openStay c).charges = s.charges ∧ (s.openStay c).line = s.line ∧ OnlyNotices s (s.openStay c) ∧
      (∀ n, ((s.openStay c).lane n).settings = (s.lane n).settings) ∧ (s.openStay c).rentals = [] ∧
      Shows (s.openStay c) .room (.room (s.openStay c).roomView) := by
  have shows := (s.opening c).admitAll.raiseRoom_shows
  have raised := Viewing.raise (s.opening c).admitAll .room (.room (s.opening c).admitAll.roomView) false
  have all := (Viewing.admitAll (s.opening c)).trans raised
  have emptied := State.rentals_openStay c empty
  have frame : Frame s (s.opening c) := ⟨rfl, rfl, rfl, rfl, rfl, rfl, rfl, rfl⟩
  have blocks : (s.opening c).lock = s.lock.opened c ∧ (s.opening c).room = s.openedRoom c ∧
      (s.opening c).charges = s.charges ∧ (s.opening c).line = s.line ∧ OnlyNotices s (s.opening c) ∧
      (s.opening c).lane = s.lane := ⟨rfl, rfl, rfl, rfl, rfl, rfl⟩
  rw [s.openStay_eq] at emptied ⊢
  generalize s.opening c = w at *
  generalize w.admitAll = v at *
  obtain ⟨lock, room, charges, line, notices, lanes⟩ := blocks
  have toRaise : Viewing w v.raiseRoom := all
  generalize v.raiseRoom = y at *
  obtain ⟨lock', charges', line', room', notices'⟩ := toRaise.only.stands
  exact ⟨frame.trans toRaise.only.frame, lock'.trans lock, by rw [← room]; exact room', charges'.trans charges, line'.trans line,
    notices.trans notices', fun n => (toRaise.settings n).trans (by rw [lanes]), emptied, shows⟩

/-- A check-in opens its stay on a part whose room holds no rental and has what it had (R92, R95). -/
structure Vacated (s t : State) : Prop where
  frame : Frame s t
  charges : t.charges = s.charges
  line : t.line = s.line
  address : t.room.address = s.room.address
  notices : OnlyNotices s t
  settings : ∀ n, (t.lane n).settings = (s.lane n).settings
  rentals : t.rentals = []

/-- A check-in that opens a stay does so on an emptied room: as it was, or after the check-out it makes (R92, R95). -/
theorem State.checkInRoom_opens {c : CheckIn} (session : c.session ≠ 0)
    (other : s.room.occupancy ≠ .occupied ∨ c.session ≠ s.room.session)
    (vacant : s.room.occupancy ≠ .occupied → s.rentals = []) :
    ∃ v, Vacated s v ∧ s.checkInRoom c = v.openStay c := by
  by_cases occupied : s.room.occupancy = .occupied
  · have differs := other.resolve_left (not_not.mpr occupied)
    obtain ⟨frame, -, room, charges, line, notices, settings, empty, -⟩ := s.closeStay_spec
    refine ⟨s.closeStay, ⟨frame, charges, line, by rw [room], notices, settings, empty⟩, ?_⟩
    rw [State.checkInRoom, if_neg session, if_pos occupied, if_neg differs]
  · refine ⟨s, ⟨.refl s, rfl, rfl, rfl, rfl, fun _ => rfl, vacant occupied⟩, ?_⟩
    rw [State.checkInRoom, if_neg session, if_neg occupied]

/-- Settles O42. -/
theorem aCheckInOpensAStay : Obligations.ACheckInOpensAStay := by
  intro s address body here len session other vacancy
  obtain ⟨lanes, rentals, -, roomWas, chargesWas⟩ := s.hearFrame_blocks
  obtain ⟨v, vacated, opens⟩ := State.checkInRoom_opens (s := s.hearFrame) session (by rw [roomWas]; exact other)
    (by rw [roomWas, rentals]; exact vacancy.1)
  obtain ⟨frame, charges, line, address', notices, settings, empty⟩ := vacated
  obtain ⟨frame', lock, room, charges', line', notices', settings', empty', shows⟩ := v.openStay_spec (checkInOf body) empty
  have acts : s.hearFrame.plAct .checkIn body [] = (v.openStay (checkInOf body), .none) := by rw [State.plAct, opens]
  obtain ⟨t, done, answered, latched, only⟩ := exec_answered here (kind := .checkIn) len acts (by rw [line', line])
  refine ⟨t, done, answered, ?_⟩
  have heard := s.hearFrame_frame
  have heardNotices := s.hearFrame_onlyNotices
  have flags := s.hearFrame_latched
  have whole := (heard.trans frame).trans frame'
  have allNotices := (OnlyNotices.trans heardNotices notices).trans notices'
  have clock : v.clock = s.clock := by
    obtain ⟨-, -, clock, -⟩ := heard.trans frame
    exact clock
  have opened : v.openedRoom (checkInOf body) = {
      address := s.room.address, occupancy := .occupied,
      session := (checkInOf body).session, terms := (checkInOf body).terms, spend := 0,
      period := if s.clock.isSet = true then
        some ⟨s.clock.count, boundaryAfter s.clock.count (checkInOf body).terms.capReset⟩ else none,
      billed := 0, history := [], previewUsed := [], retentionLost := false } := by
    rw [State.openedRoom, clock, address', roomWas]
    rfl
  generalize v.openStay (checkInOf body) = x at *
  obtain ⟨-, -, tClock, tLineup, -, tKeys, -, -⟩ := whole
  have tBlocks : t.lane = x.lane ∧ t.unlockOf = x.unlockOf ∧ t.ceiling = x.ceiling ∧ t.rentals = x.rentals ∧ t.room = x.room ∧
      t.charges = x.charges ∧ t.lock = x.lock ∧ t.link = x.link ∧ t.roomView = x.roomView ∧ t.clock = x.clock ∧
      t.lineup = x.lineup ∧ t.keys = x.keys := by
    rw [only]
    exact ⟨rfl, rfl, rfl, rfl, rfl, rfl, rfl, rfl, rfl, rfl, rfl, rfl⟩
  obtain ⟨lane, unlock, ceiling, tRentals, tRoom, tCharges, tLock, tLink, view, clock', lineup', keys'⟩ := tBlocks
  refine ⟨?_, ?_, tRentals.trans empty', ?_, clock'.trans tClock, lineup'.trans tLineup, keys'.trans tKeys, ?_, ?_, ?_, ?_,
    fun n => ⟨?_, ?_, ?_⟩, ?_, ?_⟩
  · rw [latched, line', line, flags]
  · rw [tRoom, room, opened]
  · rw [tCharges, charges', charges, chargesWas]
  · rw [tLock, lock]; rfl
  · rw [tLock, lock]; rfl
  · rw [tLock, lock]; rfl
  · rw [tLock, lock]; rfl
  · rw [ceiling, State.ceiling, lock]
    exact get_replicate ..
  · rw [unlock]
    exact State.unlockOf_of_dropped (by rw [lock]; rfl) n
  · rw [lane, settings', settings, lanes]
  · rwa [OnlyNotices, ← tLink] at allNotices
  · rw [view]
    exact shows.of_link tLink

/-! ### A stay refreshed -/

theorem State.refreshStay_eq (s : State) (terms : StayTerms) :
    s.refreshStay terms = (s.storeTerms terms).admitAll.raiseRoom := rfl

/-- What a refreshed stay leaves (R94, R98). -/
theorem State.refreshStay_spec (s : State) (terms : StayTerms) :
    Viewing (s.storeTerms terms) (s.refreshStay terms) ∧
      Shows (s.refreshStay terms) .room (.room (s.refreshStay terms).roomView) := by
  have shows := (s.storeTerms terms).admitAll.raiseRoom_shows
  have raised := Viewing.raise (s.storeTerms terms).admitAll .room (.room (s.storeTerms terms).admitAll.roomView) false
  have all := (Viewing.admitAll (s.storeTerms terms)).trans raised
  rw [s.refreshStay_eq]
  generalize (s.storeTerms terms).admitAll = v at *
  exact ⟨all, shows⟩

/-- A ROOM_UPDATE of an OCCUPIED room (R98, R99, R102). -/
theorem State.room_updated {address : BitVec 10} {body : List Byte} (here : s.AddressedBy address) (len : body.length = 26)
    (occupied : s.room.occupancy = .occupied) :
    ∃ t, exec (.roomUpdate address body) s = .next t ∧ Answered t address .none none ∧
      t.line.latched = s.line.latched ∧
      t.room = { s.room with
        terms := { stayTermsOf body with
          cap := if (stayTermsOf body).cap = 0 then 0 else max (stayTermsOf body).cap s.room.billed }
        period := if (stayTermsOf body).capReset = s.room.terms.capReset then s.room.period else s.room.period.map
          (fun p => ⟨p.start, boundaryAfter (max s.clock.count p.start) (stayTermsOf body).capReset⟩)
        previewUsed := t.room.previewUsed } ∧
      (∀ n : Screen, (t.lane n).settings = (s.lane n).settings) ∧
      t.rentals.map Rental.unseated = s.rentals.map Rental.unseated ∧
      OnlyViewing s { t with room := { s.room with previewUsed := t.room.previewUsed }, line := s.line } ∧
      Shows t .room (.room t.roomView) := by
  obtain ⟨lanes, rentals, lockWas, roomWas, chargesWas⟩ := s.hearFrame_blocks
  obtain ⟨view, shows⟩ := s.hearFrame.refreshStay_spec (stayTermsOf body)
  have acts : s.hearFrame.plAct .roomUpdate body [] = (s.hearFrame.refreshStay (stayTermsOf body), .none) := by
    rw [State.plAct, State.updateRoom, if_pos (by rw [roomWas]; exact occupied)]
  have stored : (s.hearFrame.storeTerms (stayTermsOf body)).room = { s.room with
      terms := { stayTermsOf body with
        cap := if (stayTermsOf body).cap = 0 then 0 else max (stayTermsOf body).cap s.room.billed }
      period := if (stayTermsOf body).capReset = s.room.terms.capReset then s.room.period else s.room.period.map
        (fun p => ⟨p.start, boundaryAfter (max s.clock.count p.start) (stayTermsOf body).capReset⟩) } := by
    obtain ⟨-, -, clock, -⟩ := s.hearFrame_frame
    rw [State.storeTerms, State.movedPeriod, storedCap, clock, roomWas]
  have blocks : Frame s.hearFrame (s.hearFrame.storeTerms (stayTermsOf body)) ∧
      (s.hearFrame.storeTerms (stayTermsOf body)).lock = s.hearFrame.lock ∧
      (s.hearFrame.storeTerms (stayTermsOf body)).charges = s.hearFrame.charges ∧
      (s.hearFrame.storeTerms (stayTermsOf body)).line = s.hearFrame.line ∧
      (s.hearFrame.storeTerms (stayTermsOf body)).link = s.hearFrame.link ∧
      (s.hearFrame.storeTerms (stayTermsOf body)).lane = s.hearFrame.lane ∧
      (s.hearFrame.storeTerms (stayTermsOf body)).rentals = s.hearFrame.rentals :=
    ⟨⟨rfl, rfl, rfl, rfl, rfl, rfl, rfl, rfl⟩, rfl, rfl, rfl, rfl, rfl, rfl⟩
  obtain ⟨frame, lock, charges, line, link, lane, rentalsStand⟩ := blocks
  have viewLine := view.line_eq
  obtain ⟨t, done, answered, latched, only⟩ := exec_answered here (kind := .roomUpdate) len acts (by rw [viewLine, line])
  refine ⟨t, done, answered, ?_⟩
  have heard := s.hearFrame_frame
  have heardNotices := s.hearFrame_onlyNotices
  have flags := s.hearFrame_latched
  generalize s.hearFrame.refreshStay (stayTermsOf body) = x at *
  generalize s.hearFrame.storeTerms (stayTermsOf body) = w at *
  obtain ⟨lock', charges', line', room', notices'⟩ := view.only.stands
  have tBlocks : t.lane = x.lane ∧ t.rentals = x.rentals ∧ t.room = x.room ∧ t.charges = x.charges ∧ t.lock = x.lock ∧
      t.link = x.link ∧ t.roomView = x.roomView ∧ Frame x t := by
    rw [only]
    exact ⟨rfl, rfl, rfl, rfl, rfl, rfl, rfl, rfl, rfl, rfl, rfl, rfl, rfl, rfl, rfl⟩
  obtain ⟨tLane, tRentals, tRoom, tCharges, tLock, tLink, tView, tFrame⟩ := tBlocks
  have notices : OnlyNotices s t := by
    rw [OnlyNotices, link] at notices'
    have both := OnlyNotices.trans heardNotices notices'
    rwa [OnlyNotices, ← tLink] at both
  refine ⟨?_, ?_, fun n => ?_, ?_, ?_, ?_⟩
  · rw [latched, line', line, flags]
  · rw [tRoom, room', stored]
  · rw [tLane, view.settings, lane, lanes]
  · rw [tRentals, view.unseated, rentalsStand, rentals]
  · exact Frame.onlyViewing (t := { t with room := { s.room with previewUsed := t.room.previewUsed }, line := s.line })
      (((heard.trans frame).trans view.only.frame).trans tFrame) (((tLock.trans lock').trans lock).trans lockWas)
      (((tCharges.trans charges').trans charges).trans chargesWas) rfl rfl notices
  · rw [tView]
    exact shows.of_link tLink

/-- The terms of a CHECK_IN are those of the ROOM_UPDATE laid out behind its session number (R94, 11.2). -/
theorem stayTermsOf_take (bytes : List Byte) : stayTermsOf (bytes.take 26) = stayTermsOf bytes := by
  have fields (offset len : Nat) (inside : offset + len ≤ 26) : field (bytes.take 26) offset len = field bytes offset len := by
    rw [field, field, List.drop_take, List.take_take, Nat.min_eq_left (by omega)]
  have flag : byteAt (bytes.take 26) 2 = byteAt bytes 2 := by
    simp [byteAt, List.getD]
  simp only [stayTermsOf, flag, fields _ _ (show 0 + 2 ≤ 26 by decide), fields _ _ (show 3 + 4 ≤ 26 by decide),
    fields _ _ (show 7 + 4 ≤ 26 by decide), fields _ _ (show 11 + 4 ≤ 26 by decide), fields _ _ (show 15 + 2 ≤ 26 by decide),
    fields _ _ (show 17 + 2 ≤ 26 by decide), fields _ _ (show 19 + 1 ≤ 26 by decide), fields _ _ (show 20 + 4 ≤ 26 by decide),
    fields _ _ (show 24 + 2 ≤ 26 by decide)]

/-- Settles O43. -/
theorem aStayIsRefreshed : Obligations.AStayIsRefreshed := by
  intro s address body here
  have room := s.hearFrame_room
  refine ⟨fun len occupied => State.room_updated here len occupied, fun len occupied session named => ?_,
    fun ⟨len, closed⟩ => ?_, fun ⟨len, zero⟩ => ?_⟩
  · have some : (checkInOf body).session ≠ 0 := session ▸ named
    have length : ((body.drop 2).take 26).length = 26 := by
      rw [List.length_take, List.length_drop, len]
      rfl
    have acts : s.hearFrame.plAct .checkIn body [] = s.hearFrame.plAct .roomUpdate ((body.drop 2).take 26) [] := by
      rw [State.plAct, State.plAct, State.checkInRoom, if_neg some, if_pos (by rw [room]; exact occupied),
        if_pos (by rw [room]; exact session), State.updateRoom, if_pos (by rw [room]; exact occupied), stayTermsOf_take]
      rfl
    show exec (PlKind.checkIn.command address body) s = exec (PlKind.roomUpdate.command address ((body.drop 2).take 26)) s
    rw [exec_command, exec_command, State.plCommand_addressed here, State.plCommand_addressed here, State.takeAddressed,
      State.takeAddressed, if_pos (show body.length = PlKind.bodyLength .checkIn from len),
      if_pos (show ((body.drop 2).take 26).length = PlKind.bodyLength .roomUpdate from length), acts]
    generalize s.hearFrame.plAct .roomUpdate ((body.drop 2).take 26) [] = out
    rw [State.buildReply, State.buildReply, State.replyTo_eq, State.replyTo_eq]
    rfl
  · exact exec_answered_latch here (kind := .roomUpdate) nofun len (f := fun l => { l with messageError := true }) (by
      rw [State.plAct, State.updateRoom, if_neg (by rw [room]; exact closed)]
      rfl)
  · exact exec_answered_latch here (kind := .checkIn) nofun len (f := fun l => { l with messageError := true }) (by
      rw [State.plAct, State.checkInRoom, if_pos zero]
      rfl)

end Sys2Proof.Machine
end

section
/-! SUPPORT. Changes made to several lanes at once (R57, R60, R66), and lanes that no seat is handed to. -/

namespace Sys2Proof.Machine

variable {s t u : State} {n m : Screen}

/-! ### Several lanes changed -/

/-- The lanes of a list, each changed. -/
def State.mapLanes (s : State) (f : Lane → Lane) (named : List Screen) : State :=
  named.foldl (fun s n => s.setLane n (f (s.lane n))) s

theorem State.mapLanes_only (s : State) (f : Lane → Lane) (named : List Screen) :
    s.mapLanes f named = { s with lanes := (s.mapLanes f named).lanes } :=
  foldl_state_keeps (law := fun t => t = { s with lanes := t.lanes })
    (fun t n only => congrArg (fun x : State => { x with lanes := (t.setLane n (f (t.lane n))).lanes }) only) named rfl

theorem State.lane_mapLanes {f : Lane → Lane} (twice : ∀ l, f (f l) = f l) (named : List Screen) (s : State) (n : Screen) :
    (s.mapLanes f named).lane n = if n ∈ named then f (s.lane n) else s.lane n := by
  induction named generalizing s with
  | nil => rfl
  | cons m rest ih =>
    refine (ih (s.setLane m (f (s.lane m)))).trans ?_
    by_cases own : n = m
    · subst own
      simp [twice]
    · simp [State.lane_setLane_ne s own, own]

theorem State.lane_setShutdown (s : State) (value : Bool) (named : List Screen) (n : Screen) :
    (s.setShutdown value named).lane n = if n ∈ named then { s.lane n with shutdown := value } else s.lane n :=
  State.lane_mapLanes (f := fun l => { l with shutdown := value }) (fun _ => rfl) named s n

theorem State.setShutdown_only (s : State) (value : Bool) (named : List Screen) :
    s.setShutdown value named = { s with lanes := (s.setShutdown value named).lanes } :=
  s.mapLanes_only (fun l => { l with shutdown := value }) named

theorem State.lane_dropPreviews (s : State) (n : Screen) : s.dropPreviews.lane n = { s.lane n with previewEnd := none } :=
  (State.lane_mapLanes (f := fun l => { l with previewEnd := none }) (fun _ => rfl) screens s n).trans (if_pos (mem_screens n))

theorem State.dropPreviews_only (s : State) : s.dropPreviews = { s with lanes := s.dropPreviews.lanes } :=
  s.mapLanes_only (fun l => { l with previewEnd := none }) screens

/-! ### Lanes that no seat is handed to -/

/-- A lane that does not wait is as it was when another is admitted (R55). -/
theorem State.SeatLaw.admitAs_free (law : s.SeatLaw) {v : Verdict} (suits : v.Suits s m) (apart : n ≠ m)
    (free : (s.lane n).standing ≠ .waiting) : (s.admitAs m v).lane n = s.lane n := by
  have settled : (s.settle m v).lane n = s.lane n := State.lane_settle_ne s apart v
  unfold State.admitAs
  split
  · unfold State.handOn
    split
    · refine (State.lane_handOver_ne fun waits => free ?_).trans settled
      obtain ⟨r, held, -, among⟩ := State.mem_waitingOf waits
      obtain ⟨standing, -⟩ := (((law.settle suits).1.placed n).waiting r held).mp among
      rwa [settled] at standing
    · exact settled
  · exact settled

/-- A lane that is in no preview. -/
structure Lane.Idle (l : Lane) : Prop where
  state : l.state ≠ .preview
  previewEnd : l.previewEnd = none

/-- A verdict for a lane of a rented service is no preview (R49). -/
theorem Verdict.Suits.outcome_idle {v : Verdict} (suits : v.Suits s n) (rented : s.tunedRental n ≠ none) :
    (v.outcome s n).Idle := by
  have begins (k : Nat) : v ≠ .previewStart k := by
    rintro rfl
    exact rented suits.2.2
  have keeps : v ≠ .previewKeep := by
    rintro rfl
    exact rented suits.2.2.1
  obtain ⟨stop, state⟩ := Verdict.outcome_previewEnd (s := s) (n := n) begins keeps
  exact ⟨state, stop⟩

theorem Viewing.tunedRental (h : Viewing s t) (rented : s.tunedRental n ≠ none) : t.tunedRental n ≠ none := by
  obtain ⟨r, found⟩ := Option.ne_none_iff_exists'.mp rented
  obtain ⟨held, tuned⟩ := State.mem_of_tunedRental found
  have services : t.rentals.map (·.service) = s.rentals.map (·.service) := by
    have unseated := congrArg (List.map Rental.service) h.unseated
    rwa [List.map_map, List.map_map] at unseated
  obtain ⟨x, among, same⟩ := List.mem_map.mp (services ▸ List.mem_map_of_mem held)
  rw [State.tunedRental, h.tuned, tuned, Option.bind_some]
  intro absent
  exact absurd (List.find?_eq_none.mp absent x among) (by simp [same])

/-- A lane in no preview is in none after a seat has been handed on (R49, R55). -/
theorem Lane.Idle.handOver {service : Nat} {waiting : List Screen} (idle : (s.lane n).Idle)
    (rented : ∀ w ∈ waiting, s.tunedRental w ≠ none) : ((handOver service waiting s).lane n).Idle := by
  induction waiting generalizing s with
  | nil => exact idle
  | cons w rest ih =>
    have given := Viewing.give s service w
    have settled : (((s.give service w).settle w ((s.give service w).verdict w)).lane n).Idle := by
      by_cases own : n = w
      · subst own
        rw [State.lane_settle_self]
        exact ((s.give service n).verdict_suits n).outcome_idle (given.tunedRental (rented n List.mem_cons_self))
      · rw [State.lane_settle_ne _ own, State.lane_give_ne s service own]
        exact idle
    rw [handOver_cons]
    split
    next keeps => rwa [keeps] at settled
    · exact ih settled fun x later =>
        (given.trans (.settle ..)).tunedRental (rented x (List.mem_cons_of_mem _ later))

/-- So is it after an admission that leaves it in none (R51, R55). -/
theorem State.SeatLaw.admitAs_idle (law : s.SeatLaw) {v : Verdict} (suits : v.Suits s m)
    (idle : ((s.settle m v).lane n).Idle) : ((s.admitAs m v).lane n).Idle := by
  unfold State.admitAs
  split
  · unfold State.handOn
    split
    · refine idle.handOver fun w waits absent => ?_
      obtain ⟨r, held, rfl, among⟩ := State.mem_waitingOf waits
      obtain ⟨standing, -⟩ := (((law.settle suits).1.placed w).waiting r held).mp among
      have none := ((law.settle suits).1.placed w).standing_of_unrented absent
      cases none.symm.trans standing
    · exact idle
  · exact idle

/-! ### Lanes admitted by a ROOM_RESET -/

/-- A lane's verdict at a ROOM_RESET (R57, R66). -/
def State.resetVerdict (s : State) (n : Screen) : Verdict :=
  if (s.lane n).state = .preview then (s.verdict n).withoutPreview else s.verdict n

theorem State.resetLane_eq (s : State) (n : Screen) : s.resetLane n = s.admitAs n (s.resetVerdict n) := by
  unfold State.resetLane State.resetVerdict
  split <;> rfl

theorem State.resetVerdict_suits (s : State) (n : Screen) : (s.resetVerdict n).Suits s n := by
  unfold State.resetVerdict
  split
  · exact (s.verdict_suits n).withoutPreview
  · exact s.verdict_suits n

theorem State.SeatLaw.resetLanes (law : s.SeatLaw) (order : List Screen) : (order.foldl State.resetLane s).SeatLaw :=
  foldl_state_keeps (law := State.SeatLaw) (fun t m law => by
    rw [t.resetLane_eq]
    exact (Reseated.admitAs (t.resetVerdict_suits m)).1.law law) order law

/-- A lane that does not wait stands until its own turn, and what its turn leaves of it stands where it leaves no standing (R53). -/
theorem State.SeatLaw.resetLanes_turn (law : s.SeatLaw) (free : (s.lane n).standing = .none) :
    ∃ u, u.SeatLaw ∧ Viewing s u ∧ u.lane n = s.lane n ∧
      (((u.settle n (u.resetVerdict n)).lane n).Idle → ((screens.foldl State.resetLane s).lane n).Idle) ∧
      (((u.settle n (u.resetVerdict n)).lane n).standing = .none → u.tunedRental n = none →
        (screens.foldl State.resetLane s).lane n = (u.settle n (u.resetVerdict n)).lane n) := by
  obtain ⟨before, after, split, early, late⟩ := split_once (order := screens) (by decide) (mem_screens n)
  rw [split, List.foldl_append, List.foldl_cons]
  have stands : ∀ (order : List Screen), n ∉ order → ∀ t : State, t.SeatLaw → (t.lane n).standing = .none →
      (order.foldl State.resetLane t).lane n = t.lane n := by
    intro order
    induction order with
    | nil => exact fun _ _ _ _ => rfl
    | cons m rest ih =>
      intro out t law free
      obtain ⟨apart, later⟩ := not_or.mp (List.mem_cons.not.mp out)
      have suits := t.resetVerdict_suits m
      have first : (t.resetLane m).lane n = t.lane n := by
        rw [t.resetLane_eq]
        exact law.admitAs_free suits apart (by simp [free])
      have kept : (t.resetLane m).SeatLaw := by
        rw [t.resetLane_eq]
        exact (Reseated.admitAs suits).1.law law
      exact (ih later _ kept (by rw [first, free])).trans first
  have idles : ∀ (order : List Screen), n ∉ order → ∀ t : State, t.SeatLaw → (t.lane n).Idle →
      ((order.foldl State.resetLane t).lane n).Idle := by
    intro order
    induction order with
    | nil => exact fun _ _ _ idle => idle
    | cons m rest ih =>
      intro out t law idle
      obtain ⟨apart, later⟩ := not_or.mp (List.mem_cons.not.mp out)
      have suits := t.resetVerdict_suits m
      have kept : (t.resetLane m).SeatLaw := by
        rw [t.resetLane_eq]
        exact (Reseated.admitAs suits).1.law law
      refine ih later _ kept ?_
      rw [t.resetLane_eq]
      exact law.admitAs_idle suits (by rw [State.lane_settle_ne t apart]; exact idle)
  have reached := law.resetLanes before
  have view : Viewing s (before.foldl State.resetLane s) := .foldl _ Viewing.resetLane before s
  have same := stands before early s law free
  generalize before.foldl State.resetLane s = u at reached view same
  have suits := u.resetVerdict_suits n
  have taken : (u.admitAs n (u.resetVerdict n)).SeatLaw := (Reseated.admitAs suits).1.law reached
  refine ⟨u, reached, view, same, fun idle => ?_, fun leaves absent => ?_⟩
  · rw [u.resetLane_eq]
    exact idles after late _ taken (reached.admitAs_idle suits idle)
  · have settled : u.admitAs n (u.resetVerdict n) = u.settle n (u.resetVerdict n) :=
      State.admitAs_of_free (by rw [same, free]; nofun) _
    rw [u.resetLane_eq, settled]
    rw [settled] at taken
    exact stands after late _ taken leaves

end Sys2Proof.Machine
end

section
/-! PROOFS. The screens shut down, restored and reset (R57, R60, R66). -/

namespace Sys2Proof.Machine

variable {s t x : State} {n : Screen}

/-- The state in which a ROOM_RESET admits the lanes (R66). -/
def State.resetting (s : State) : State := (s.dropPreviews.dropUnlocks).setShutdown false screens

theorem State.resetScreens_eq (s : State) : s.resetScreens = screens.foldl State.resetLane s.resetting := rfl

theorem State.lane_resetting (s : State) (n : Screen) :
    s.resetting.lane n = { s.lane n with previewEnd := none, shutdown := false } := by
  rw [State.resetting, State.lane_setShutdown, if_pos (mem_screens n)]
  show { s.dropPreviews.lane n with shutdown := false } = _
  rw [State.lane_dropPreviews]

theorem State.resetting_only (s : State) : s.resetting = { s with
    lanes := s.resetting.lanes, lock := { s.lock with unlocks := Vector.replicate 4 none } } := by
  rw [State.resetting]
  have flags := s.dropPreviews.dropUnlocks.setShutdown_only false screens
  generalize s.dropPreviews.dropUnlocks.setShutdown false screens = w at *
  rw [flags]
  have ends := s.dropPreviews_only
  generalize s.dropPreviews = v at *
  rw [ends]
  rfl

/-- A lane in PREVIEW has no standing (R42). -/
theorem State.SeatsOk.standing_of_preview (ok : s.SeatsOk) (preview : (s.lane n).state = .preview) :
    (s.lane n).standing = .none := by
  obtain ⟨-, -, -, lanes⟩ := ok
  obtain ⟨holding, -, waiting⟩ := lanes n
  cases standing : (s.lane n).standing with
  | none => rfl
  | holding => cases preview.symm.trans (holding standing).1
  | waiting => cases preview.symm.trans (waiting.mpr standing)

/-- A lane in PREVIEW whose preview a ROOM_RESET has ended is given none (R57, R66). -/
theorem State.resetVerdict_of_preview (preview : (s.lane n).state = .preview) (ended : (s.lane n).previewEnd = none) :
    ((s.settle n (s.resetVerdict n)).lane n).Idle := by
  have verdict : s.resetVerdict n = (s.verdict n).withoutPreview := if_pos preview
  have suits := s.verdict_suits n
  have begins (k : Nat) : (s.verdict n).withoutPreview ≠ .previewStart k := by
    cases s.verdict n <;> nofun
  have keeps : (s.verdict n).withoutPreview ≠ .previewKeep := by
    intro same
    have kept : s.verdict n = .previewKeep := by
      cases v : s.verdict n <;> simp_all [Verdict.withoutPreview]
    rw [kept] at suits
    obtain ⟨-, -, -, -, stop⟩ := suits
    rw [ended] at stop
    cases stop
  rw [State.lane_settle_self, verdict]
  obtain ⟨stop, state⟩ := Verdict.outcome_previewEnd (s := s) (n := n) begins keeps
  exact ⟨state, stop⟩

/-- A FILM without a rental that is not adult: locked, or a purchase is needed (R57). -/
theorem State.resetVerdict_of_film {service : Nat} {e : LineupEntry} (preview : (s.lane n).state = .preview)
    (ended : (s.lane n).previewEnd = none) (tuned : (s.lane n).tuned = some service) (running : (s.lane n).shutdown = false)
    (entry : s.entry service = some e) (occupied : s.room.occupancy = .occupied) (adult : e.adult = false)
    (film : e.terms.code = 2) (unrented : s.rentalOf service = none) (unlock : s.unlockOf n = none) :
    s.resetVerdict n = .blank (if (ratingCompare (s.lane n).rating (s.ceiling n)).any = true then .locked else .purchaseNeeded) := by
  have own : e.service = service := State.service_of_entry entry
  rw [State.resetVerdict, if_pos preview, State.verdict_of_occupied tuned running entry occupied adult]
  by_cases blocked : (ratingCompare (s.lane n).rating (s.ceiling n)).any = true
  · rw [if_pos (State.locked_of_blocked blocked unlock), if_pos blocked]
    rfl
  · rw [if_neg (by simp [State.not_locked (Bool.eq_false_iff.mpr blocked)]), if_neg blocked]
    cases terms : e.terms with
    | film code seconds =>
      simp only [State.entitlement, terms, own]
      unfold State.saleVerdict
      rw [unrented]
      dsimp only
      rw [if_neg (by simp [ended])]
      split <;> rfl
    | _ => simp [terms, Terms.code] at film

/-- What a ROOM_RESET makes of the lanes that were in PREVIEW (R57, R66). -/
theorem State.SeatsOk.resetScreens (ok : s.SeatsOk) (preview : (s.lane n).state = .preview) :
    (s.resetScreens.lane n).Idle ∧ ∀ service e, (s.lane n).tuned = some service → s.entry service = some e → e.terms.code = 2 →
      s.room.occupancy = .occupied → e.adult = false → (∀ r ∈ s.rentals, r.service ≠ e.service) →
      (s.resetScreens.lane n).state = .blank (if (ratingCompare (s.lane n).rating (s.ceiling n)).any = true then .locked
        else .purchaseNeeded) := by
  have lane := s.lane_resetting
  have only := s.resetting_only
  rw [s.resetScreens_eq]
  generalize s.resetting = w at lane only
  have law : w.SeatLaw := ok.seatLaw.congr (fun n => by rw [lane]; exact ⟨rfl, rfl⟩) (by rw [only])
  have free : (w.lane n).standing = .none := by
    rw [lane]
    exact ok.standing_of_preview preview
  obtain ⟨u, -, view, same, idle, stands⟩ := law.resetLanes_turn free
  have uLane : u.lane n = { s.lane n with previewEnd := none, shutdown := false } := same.trans (lane n)
  refine ⟨idle (State.resetVerdict_of_preview (by rw [uLane]; exact preview) (congrArg Lane.previewEnd uLane)),
    fun service e tuned entry film occupied adult unrented => ?_⟩
  have bars := view.bars
  have wEntry : w.entry = s.entry := by rw [only]; rfl
  have own : e.service = service := State.service_of_entry entry
  have absent : u.rentalOf service = none := by
    have services : u.rentals.map (·.service) = s.rentals.map (·.service) := by
      have unseated := congrArg (List.map Rental.service) view.unseated
      rw [List.map_map, List.map_map] at unseated
      have rentals : w.rentals = s.rentals := by rw [only]
      rw [← rentals]
      exact unseated
    refine List.find?_eq_none.mpr fun r held same => ?_
    obtain ⟨x, was, service'⟩ := List.mem_map.mp (services ▸ List.mem_map_of_mem held)
    exact unrented x was (by rw [service', own]; simpa using same)
  have unlock : u.unlockOf n = none := State.unlockOf_of_dropped (by rw [bars.lock, only]) n
  have ceiling : u.ceiling n = s.ceiling n := by
    rw [State.ceiling, bars.lock, only]
    rfl
  have verdict := State.resetVerdict_of_film (s := u) (n := n) (service := service) (e := e) (by rw [uLane]; exact preview)
    (congrArg Lane.previewEnd uLane) (by rw [uLane]; exact tuned) (congrArg Lane.shutdown uLane) (by rw [bars.entry, wEntry]; exact entry)
    (by rw [bars.occupancy, only]; exact occupied) adult film absent unlock
  rw [ceiling, uLane] at verdict
  rw [verdict] at stands
  have blank := stands (by rw [State.lane_settle_self]; rfl) (by
    rw [State.tunedRental, uLane]
    exact (congrArg (·.bind u.rentalOf) tuned).trans absent)
  rw [blank, State.lane_settle_self]
  rfl

/-- A ROOM_RESET (R66, R177). -/
theorem State.room_reset {address : BitVec 10} (here : s.AddressedBy address ∨ s.BroadcastBy address) :
    ∃ t, exec (.roomReset address []) s = .next t ∧ Took t address ∧
      t.line.latched = flagsAfter ⟨false, false, false, false⟩ address ∧
      (∀ n : Screen, t.unlockOf n = none ∧ (t.lane n).settings =
        ((s.lane n).tuned, (s.lane n).keyMiss, (s.lane n).rating, false)) ∧
      t.lock = { s.lock with unlocks := t.lock.unlocks } ∧
      t.rentals.map Rental.unseated = s.rentals.map Rental.unseated ∧
      (s.SeatsOk → ∀ n : Screen, (s.lane n).state = .preview → (t.lane n).state ≠ .preview ∧
        (t.lane n).previewEnd = none ∧
        ∀ e ∈ (s.lane n).tuned.bind s.entry, e.terms.code = 2 → s.room.occupancy = .occupied → e.adult = false →
          (∀ r ∈ s.rentals, r.service ≠ e.service) →
          (t.lane n).state = .blank (if (ratingCompare (s.lane n).rating (s.ceiling n)).any = true then .locked
            else .purchaseNeeded)) ∧
      OnlyViewing s { t with lock := s.lock, line := s.line } := by
  obtain ⟨lanes, rentals, lockWas, roomWas, chargesWas⟩ := s.hearFrame_blocks
  have lane := s.hearFrame.lane_resetting
  have only := s.hearFrame.resetting_only
  have view : Viewing s.hearFrame.resetting s.hearFrame.resetScreens := .foldl _ Viewing.resetLane screens _
  have previews (n : Screen) (ok : s.hearFrame.SeatsOk) := ok.resetScreens (n := n)
  have line : s.hearFrame.resetScreens.line = s.hearFrame.line := by rw [view.line_eq, only]
  have acts : s.hearFrame.plAct .roomReset [] [] = (s.hearFrame.resetRoom, .none) := rfl
  rw [State.resetRoom] at acts
  have heardView (x : State) := OnlyViewing.heard (s := s) (x := x)
  have seatsOk (ok : s.SeatsOk) : s.hearFrame.SeatsOk := by
    rw [s.hearFrame_eq]
    exact ok
  have entries : s.hearFrame.entry = s.entry := funext fun service => by rw [State.entry, s.hearFrame_lineup]; rfl
  have ceilings : s.hearFrame.ceiling = s.ceiling := funext fun n => by rw [State.ceiling, lockWas]; rfl
  generalize s.hearFrame.resetting = w at *
  generalize s.hearFrame.resetScreens = x at *
  obtain ⟨t, done, took, latched, frame⟩ := State.plCommand_took here (kind := .roomReset) (body := []) (order := [])
    rfl rfl acts (by
      show { x.line with latched := .clear } = _
      rw [line]
      rfl)
  refine ⟨t, congrArg Host.Outcome.next done, took, latched, ?_⟩
  generalize s.hearFrame = h at *
  have tBlocks : t.lane = x.lane ∧ t.unlockOf = x.unlockOf ∧ t.lock = x.lock ∧ t.rentals = x.rentals := by
    rw [frame]
    exact ⟨rfl, rfl, rfl, rfl⟩
  obtain ⟨tLane, tUnlock, tLock, tRentals⟩ := tBlocks
  have lock : x.lock = { s.lock with unlocks := Vector.replicate 4 none } := by
    rw [view.lock_eq, only, lockWas]
  refine ⟨fun n => ⟨?_, ?_⟩, ?_, ?_, fun ok n preview => ?_, ?_⟩
  · rw [tUnlock]
    exact State.unlockOf_of_dropped (by rw [lock]) n
  · rw [tLane, view.settings, lane, lanes]
    rfl
  · rw [tLock, lock]
  · rw [tRentals, view.unseated, only, rentals]
  · obtain ⟨idle, film⟩ := previews n (seatsOk ok) (by rw [lanes]; exact preview)
    rw [tLane]
    refine ⟨idle.state, idle.previewEnd, fun e found code occupied adult unrented => ?_⟩
    obtain ⟨service, tuned, entry⟩ := Option.bind_eq_some_iff.mp found
    have blank := film service e (by rw [lanes]; exact tuned) (by rw [entries]; exact entry) code (by rw [roomWas]; exact occupied)
      adult (by rw [rentals]; exact unrented)
    rwa [lanes, ceilings] at blank
  · have back : OnlyViewing h { x with lock := h.lock } := by
      obtain ⟨reached, raised⟩ := view.only
      have link : w.link = h.link := by rw [only]
      refine ⟨?_, ?_⟩
      · rw [only] at reached
        exact congrArg (fun x : State => { x with lock := h.lock }) reached
      · rwa [OnlyNotices, link] at raised
    have whole := heardView _ back
    dsimp only at whole
    rw [lockWas] at whole
    rw [frame]
    exact whole

/-- SCREEN_SHUTDOWN and SCREEN_RESTORE (R60). -/
theorem State.screens_shut {address : BitVec 10} (here : s.AddressedBy address) {kind : PlKind} (usual : kind ≠ .collect)
    (value : Bool) (mask : Byte) (len : kind.bodyLength = 1)
    (acts : ∀ u : State, u.plAct kind [mask] [] = (u.shutdownScreens value (maskScreens [mask]), .none)) :
    ∃ t, exec (kind.command address [mask]) s = .next t ∧ Answered t address .none none ∧
      t.line.latched = s.line.latched ∧
      (∀ n : Screen, (t.lane n).settings = ((s.lane n).tuned, (s.lane n).keyMiss, (s.lane n).rating,
          if mask.getLsbD n.val = true then value else (s.lane n).shutdown) ∧
        (value = true → mask.getLsbD n.val = true → (s.lane n).tuned.isSome → Lane.Shut .shutdown (t.lane n))) ∧
      t.rentals.map Rental.unseated = s.rentals.map Rental.unseated ∧ OnlyViewing s { t with line := s.line } := by
  obtain ⟨lanes, rentals, -, -, -⟩ := s.hearFrame_blocks
  have named (n : Screen) : n ∈ maskScreens [mask] ↔ mask.getLsbD n.val = true := by
    rw [maskScreens, List.mem_filter]
    exact and_iff_right (mem_screens n)
  have lane := s.hearFrame.lane_setShutdown value (maskScreens [mask])
  have only := s.hearFrame.setShutdown_only value (maskScreens [mask])
  have view := Viewing.admitEach (s.hearFrame.setShutdown value (maskScreens [mask])) (maskScreens [mask])
  have shut (n : Screen) (own : n ∈ maskScreens [mask])
      (barred : (s.hearFrame.setShutdown value (maskScreens [mask])).bar n = some .shutdown) :=
    (Rules.shut barred).admitEach (.refl _) (maskScreens [mask]) (.inl own)
  have result := (acts s.hearFrame)
  rw [State.shutdownScreens] at result
  have flags := s.hearFrame_latched
  have heardView (x : State) := OnlyViewing.heard (s := s) (x := x)
  obtain ⟨t, done, answered, latched, frame⟩ := exec_answered here (kind := kind) (body := [mask]) (by rw [len]; rfl) result (by
    rw [view.line_eq, only])
  rw [if_neg usual] at answered
  refine ⟨t, done, answered, ?_⟩
  generalize (s.hearFrame.setShutdown value (maskScreens [mask])).admitEach (maskScreens [mask]) = x at *
  generalize s.hearFrame.setShutdown value (maskScreens [mask]) = w at *
  generalize s.hearFrame = h at *
  have tBlocks : t.lane = x.lane ∧ t.rentals = x.rentals := by
    rw [frame]
    exact ⟨rfl, rfl⟩
  obtain ⟨tLane, tRentals⟩ := tBlocks
  have laneNow (n : Screen) : w.lane n = { s.lane n with shutdown := if mask.getLsbD n.val = true then value else (s.lane n).shutdown } := by
    rw [lane, lanes]
    by_cases own : mask.getLsbD n.val = true
    · rw [if_pos ((named n).mpr own), if_pos own]
    · rw [if_neg (fun among => own ((named n).mp among)), if_neg own]
  refine ⟨?_, fun n => ⟨?_, fun down own tuned => ?_⟩, ?_, ?_⟩
  · rw [latched, view.line_eq, only, flags]
  · rw [tLane, view.settings, laneNow]
    rfl
  · rw [tLane]
    refine shut n ((named n).mpr own) (State.bar_of_verdict (State.verdict_shutdown ?_ ?_) nofun)
    · rw [laneNow]
      exact Option.isSome_iff_ne_none.mp tuned
    · rw [laneNow, if_pos own, down]
  · rw [tRentals, view.unseated, only, rentals]
  · have set : OnlyViewing h w := by
      have link : w.link = h.link := by rw [only]
      refine ⟨?_, by rw [OnlyNotices, link]⟩
      rw [link]
      have rentals : w.rentals = h.rentals := by rw [only]
      have room : w.room = h.room := by rw [only]
      rw [rentals, room]
      exact only
    have whole := heardView _ (set.trans view.only)
    rw [frame]
    exact whole

/-- Settles O41. -/
theorem screensAreShutRestoredAndReset : Obligations.ScreensAreShutRestoredAndReset := by
  intro s address mask
  refine ⟨fun here => State.room_reset here, fun here => ⟨?_, ?_⟩⟩
  · obtain ⟨t, done, answered, latched, lanes, rest⟩ :=
      State.screens_shut here (kind := .screenShutdown) nofun true mask rfl (fun _ => rfl)
    refine ⟨t, done, answered, latched, fun n => ?_, rest⟩
    obtain ⟨settings, shut⟩ := lanes n
    refine ⟨settings.trans ?_, fun own tuned => ?_⟩
    · cases mask.getLsbD n.val <;> simp
    · obtain ⟨state, standing, stop⟩ := shut rfl own tuned
      exact ⟨state, standing, stop⟩
  · obtain ⟨t, done, answered, latched, lanes, rest⟩ :=
      State.screens_shut here (kind := .screenRestore) nofun false mask rfl (fun _ => rfl)
    refine ⟨t, done, answered, latched, fun n => ?_, rest⟩
    refine (lanes n).1.trans ?_
    cases mask.getLsbD n.val <;> simp

end Sys2Proof.Machine
end

section
/-! SUPPORT. A lane released and untuned (R46, R55), and all lanes untuned by a host RESTART (R65, R195). -/

namespace Sys2Proof.Machine

variable {s t u : State} {n m : Screen}

/-! ### A release -/

/-- A seat handed to lanes of a rented service writes nothing of the room (R49, R55). -/
theorem State.room_handOver {service : Nat} {waiting : List Screen} (rented : ∀ w ∈ waiting, s.tunedRental w ≠ none) :
    (handOver service waiting s).room = s.room := by
  induction waiting generalizing s with
  | nil => rfl
  | cons w rest ih =>
    have given := Viewing.give s service w
    have suits := (s.give service w).verdict_suits w
    have own := given.tunedRental (rented w List.mem_cons_self)
    have settled : ((s.give service w).settle w ((s.give service w).verdict w)).room = s.room :=
      State.room_settle fun k begins => by
        rw [begins] at suits
        exact own suits.2.2
    rw [handOver_cons]
    split
    next keeps => rwa [keeps] at settled
    · exact (ih fun x later => (given.trans (.settle ..)).tunedRental (rented x (List.mem_cons_of_mem _ later))).trans settled

/-- A lane in a waiting list is of a rented service (R42). -/
theorem State.SeatLaw.rented_of_waits (law : s.SeatLaw) {service : Nat} {w : Screen} (waits : w ∈ s.waitingOf service) :
    s.tunedRental w ≠ none ∧ (s.lane w).standing = .waiting := by
  obtain ⟨r, held, rfl, among⟩ := State.mem_waitingOf waits
  obtain ⟨standing, -⟩ := ((law.placed w).waiting r held).mp among
  refine ⟨fun absent => ?_, standing⟩
  have none := (law.placed w).standing_of_unrented absent
  cases standing.symm.trans none

theorem State.room_leave (s : State) (n : Screen) : (s.leave n).room = s.room := by
  unfold State.leave State.mapTunedRental
  split <;> rfl

theorem State.SeatLaw.room_release (law : s.SeatLaw) (n : Screen) : (s.release n).room = s.room := by
  rw [s.release_eq]
  refine Eq.trans ?_ (s.room_leave n)
  unfold State.handOn
  split
  · exact State.room_handOver fun w waits => ((law.leave n).rented_of_waits waits).1
  · rfl

/-- A lane that does not wait is as it was when another is released (R55). -/
theorem State.SeatLaw.lane_release_free (law : s.SeatLaw) (apart : m ≠ n) (free : (s.lane m).standing ≠ .waiting) :
    (s.release n).lane m = s.lane m := by
  rw [s.release_eq]
  refine Eq.trans ?_ (s.lane_leave_ne apart)
  unfold State.handOn
  split
  · refine State.lane_handOver_ne fun waits => free ?_
    have standing := ((law.leave n).rented_of_waits waits).2
    rwa [s.lane_leave_ne apart] at standing
  · rfl

/-! ### A lane untuned -/

/-- What tuning and untuning lanes leaves of everything but the lanes and the unlocks (R46, R65). -/
structure Retuned (s t : State) : Prop where
  frame : Frame s t
  room : t.room = { s.room with previewUsed := t.room.previewUsed }
  charges : t.charges = s.charges
  line : t.line = s.line
  lock : t.lock = { s.lock with unlocks := t.lock.unlocks }
  notices : OnlyNotices s t
  unseated : t.rentals.map Rental.unseated = s.rentals.map Rental.unseated
  shutdown : ∀ m, (t.lane m).shutdown = (s.lane m).shutdown

theorem Retuned.refl (s : State) : Retuned s s := ⟨.refl s, rfl, rfl, rfl, rfl, rfl, rfl, fun _ => rfl⟩

theorem Retuned.trans (h : Retuned s t) (k : Retuned t u) : Retuned s u where
  frame := h.frame.trans k.frame
  room := by rw [k.room, h.room]
  charges := k.charges.trans h.charges
  line := k.line.trans h.line
  lock := by rw [k.lock, h.lock]
  notices := h.notices.trans k.notices
  unseated := k.unseated.trans h.unseated
  shutdown m := (k.shutdown m).trans (h.shutdown m)

theorem Retuned.onlyViewing (h : Retuned s t) : OnlyViewing s { t with lock := s.lock } :=
  Frame.onlyViewing (t := { t with lock := s.lock }) h.frame rfl h.charges h.line h.room h.notices

theorem State.OnlyNotices_untuneLane (s : State) (n : Screen) : OnlyNotices (s.release n) (s.untuneLane n) := by
  unfold State.untuneLane
  dsimp only
  split <;> rfl

/-- What an UNTUNE leaves (R46). -/
theorem State.untuneLane_spec (s : State) (n : Screen) :
    Retuned s (s.untuneLane n) ∧ (s.untuneLane n).unlockOf n = none ∧
      (s.untuneLane n).lane n = { Lane.atStart with shutdown := (s.lane n).shutdown } ∧
      ∀ m ≠ n, (s.untuneLane n).lane m = (s.release n).lane m ∧ (s.untuneLane n).unlockOf m = s.unlockOf m := by
  have view := Viewing.release s n
  have raised := s.OnlyNotices_untuneLane n
  have own := s.lane_untuneLane n
  have unlock := s.unlockOf_untuneLane n
  obtain ⟨l, eq⟩ := s.untuneLane_eq n
  have others : ∀ m ≠ n, (s.untuneLane n).lane m = (s.release n).lane m := fun m other => by
    rw [eq]
    exact State.lane_setLane_ne _ other _
  have unlocks : ∀ m ≠ n, (s.untuneLane n).unlockOf m = (s.release n).unlockOf m := fun m other => by
    rw [eq]
    exact State.unlockOf_setUnlock_ne _ other none
  have blocks : Frame (s.release n) (s.untuneLane n) ∧ (s.untuneLane n).room = (s.release n).room ∧
      (s.untuneLane n).charges = (s.release n).charges ∧ (s.untuneLane n).line = (s.release n).line ∧
      (s.untuneLane n).lock = { (s.release n).lock with unlocks := (s.untuneLane n).lock.unlocks } ∧
      (s.untuneLane n).rentals = (s.release n).rentals := by
    rw [eq]
    generalize s.release n = v
    exact ⟨⟨rfl, rfl, rfl, rfl, rfl, rfl, rfl, rfl⟩, rfl, rfl, rfl, rfl, rfl⟩
  obtain ⟨frame, room, charges, line, lock, rentals⟩ := blocks
  clear eq
  generalize s.untuneLane n = t at *
  generalize s.release n = v at *
  obtain ⟨lock', charges', line', room', notices'⟩ := view.only.stands
  refine ⟨⟨view.only.frame.trans frame, ?_, charges.trans charges', line.trans line', ?_, notices'.trans raised, ?_, fun m => ?_⟩,
    unlock, own, fun m other => ⟨others m other, (unlocks m other).trans (view.unlockOf m)⟩⟩
  · rw [room]
    exact room'
  · rw [lock, lock']
  · rw [rentals]
    exact view.unseated
  · by_cases same : m = n
    · rw [same, own]
    · rw [others m same]
      exact congrArg (·.2.2.2) (view.settings m)

/-- Under the law of the seats an UNTUNE also keeps the preview-used list, the law, and the lanes that do not wait (R46, R55). -/
theorem State.SeatLaw.untuneLane (law : s.SeatLaw) (n : Screen) :
    (s.untuneLane n).SeatLaw ∧ (s.untuneLane n).room = s.room ∧
      ∀ m ≠ n, (s.lane m).standing = .none → (s.untuneLane n).lane m = s.lane m := by
  obtain ⟨-, -, own, others⟩ := s.untuneLane_spec n
  obtain ⟨law', lane, -⟩ := law.release n
  obtain ⟨l, eq⟩ := s.untuneLane_eq n
  refine ⟨law'.retune (n := n) (by rw [lane]) (by rw [eq]; rfl) (fun m other => (others m other).1) (by rw [own]; rfl), ?_,
    fun m other free => (others m other).1.trans (law.lane_release_free other (by simp [free]))⟩
  rw [eq]
  exact law.room_release n

/-! ### All lanes untuned -/

/-- A list of lanes untuned one by one (R65). -/
theorem State.SeatLaw.untuneEach (law : s.SeatLaw) (order : List Screen) :
    (order.foldl State.untuneLane s).SeatLaw ∧ Retuned s (order.foldl State.untuneLane s) ∧
      (order.foldl State.untuneLane s).room = s.room ∧
      ∀ n, n ∈ order ∨ (s.lane n = { Lane.atStart with shutdown := (s.lane n).shutdown } ∧ s.unlockOf n = none) →
        (order.foldl State.untuneLane s).lane n = { Lane.atStart with shutdown := (s.lane n).shutdown } ∧
        (order.foldl State.untuneLane s).unlockOf n = none := by
  induction order generalizing s with
  | nil => exact ⟨law, .refl s, rfl, fun n done => done.resolve_left (by simp)⟩
  | cons m rest ih =>
    obtain ⟨untuned, unlock, own, others⟩ := s.untuneLane_spec m
    obtain ⟨law', room, free⟩ := law.untuneLane m
    obtain ⟨law'', later, room', done⟩ := ih law'
    refine ⟨law'', untuned.trans later, room'.trans room, fun n some => ?_⟩
    rw [List.foldl_cons, ← untuned.shutdown n]
    refine done n ?_
    by_cases same : n = m
    · subst same
      exact .inr ⟨by rw [own], unlock⟩
    · obtain among | ⟨still, none⟩ := some
      · exact .inl ((List.mem_cons.mp among).resolve_left same)
      · have stands := free n same (by rw [still]; rfl)
        refine .inr ⟨?_, (others n same).2.trans none⟩
        rw [stands]
        exact still

/-- Rentals that no lane holds or waits for have no seats (R42, R119). -/
theorem State.SeatLaw.rentals_of_free (law : s.SeatLaw) (free : ∀ n, (s.lane n).standing = .none) :
    s.rentals = s.rentals.map Rental.unseated := by
  have none (r : Rental) (held : r ∈ s.rentals) : r.unseated = r := by
    have seats : r.seats = [] := List.eq_nil_iff_forall_not_mem.mpr fun n seat => by
      have standing := (((law.placed n).seats r held).mp seat).1
      cases (free n).symm.trans standing
    have waiting : r.waiting = [] := List.eq_nil_iff_forall_not_mem.mpr fun n place => by
      have standing := (((law.placed n).waiting r held).mp place).1
      cases (free n).symm.trans standing
    clear held
    obtain ⟨⟩ := r
    cases seats
    cases waiting
    rfl
  exact ((List.map_congr_left none).trans (List.map_id _)).symm

/-- What untuning every lane leaves (R65). -/
theorem State.SeatLaw.untuneAll (law : s.SeatLaw) :
    Retuned s s.untuneAll ∧ s.untuneAll.room = s.room ∧ s.untuneAll.rentals = s.rentals.map Rental.unseated ∧
      ∀ n, s.untuneAll.lane n = { Lane.atStart with shutdown := (s.lane n).shutdown } ∧ s.untuneAll.unlockOf n = none := by
  obtain ⟨law', untuned, room, lanes⟩ := law.untuneEach screens
  have each (n : Screen) := lanes n (.inl (mem_screens n))
  unfold State.untuneAll
  refine ⟨untuned, room, ?_, each⟩
  have free := law'.rentals_of_free fun n => by rw [(each n).1]; rfl
  exact free.trans untuned.unseated

end Sys2Proof.Machine
end

section
/-! PROOFS. The host's RESTART (R65, R195). -/

namespace Sys2Proof.Machine

variable {s t : State} {n : Screen}

/-- The state in which a RESTART untunes the lanes: its reply has left and the buffer is discarded (R195). -/
def State.discarded (s : State) : State := { s with link := { s.link with buffer := [], tx := .idle } }

/-- A RESTART's own part of the link (R195). -/
def State.relinked (s : State) : State := { s with link := { s.link with
  notices := [⟨.start, .start (s.startView .restart), 1⟩], modes := .allEvery, armed := Vector.replicate 12 true } }

theorem State.takeRestart_relinked (s : State) : s.takeRestart = s.discarded.untuneAll.relinked := by
  unfold State.takeRestart State.discarded
  dsimp only
  generalize State.untuneAll _ = u
  rfl

/-- The transmitter with no frame buffered takes the oldest answer, if any (R185). -/
theorem State.chooseNext_answers (empty : s.link.buffer = []) (idle : s.link.tx = .idle) : s.chooseNext = { s with link := { s.link with
    tx := (s.link.answers.head?.map MlTx.sending).getD .idle, answers := s.link.answers.tail } } := by
  unfold State.chooseNext
  cases answers : s.link.answers with
  | nil =>
    dsimp only
    rw [empty]
    dsimp only [List.head?_nil, Option.map_none, Option.getD_none, List.tail_nil]
    rw [← idle, ← answers, ← empty]
  | cons a rest => rfl

/-- Settles O25. -/
theorem aRestartTakesEffectAfterItsReply : Obligations.ARestartTakesEffectAfterItsReply := by
  intro s powered restart ok
  have done : exec .restartTakesEffect s = .next s.takeRestart.chooseNext := by
    show Host.Outcome.next (s.ifPowered _) = _
    rw [State.ifPowered, if_pos powered, if_pos restart, State.transmitNext, State.finishTx, if_pos restart]
  have law : s.discarded.SeatLaw := ok.seatLaw.congr (fun _ => ⟨rfl, rfl⟩) rfl
  obtain ⟨untuned, room, rentals, lanes⟩ := law.untuneAll
  have was : s.discarded.lane = s.lane ∧ s.discarded.rentals = s.rentals ∧ s.discarded.room = s.room ∧
      s.discarded.lock = s.lock ∧ s.discarded.charges = s.charges ∧ s.discarded.line = s.line ∧ Frame s s.discarded ∧
      s.discarded.link = { s.link with buffer := [], tx := .idle } :=
    ⟨rfl, rfl, rfl, rfl, rfl, rfl, ⟨rfl, rfl, rfl, rfl, rfl, rfl, rfl, rfl⟩, rfl⟩
  rw [s.takeRestart_relinked] at done
  generalize s.discarded.untuneAll = u at *
  generalize s.discarded = d at *
  obtain ⟨lane, rentalsWas, roomWas, lockWas, chargesWas, lineWas, frameWas, linkWas⟩ := was
  have notices := untuned.notices
  rw [OnlyNotices, linkWas] at notices
  have empty : u.relinked.link.buffer = [] := by
    show u.link.buffer = []
    rw [notices]
  have idle : u.relinked.link.tx = .idle := by
    show u.link.tx = .idle
    rw [notices]
  rw [State.chooseNext_answers empty idle] at done
  have rentalsNow : u.rentals = s.rentals.map Rental.unseated := by rw [rentals, rentalsWas]
  have lockNow : u.lock = { s.lock with unlocks := u.lock.unlocks } := by
    rw [← lockWas]
    exact untuned.lock
  have roomNow : u.room = { s.room with previewUsed := u.room.previewUsed } := by
    rw [← roomWas]
    exact untuned.room
  refine ⟨_, done, fun n => ?_, rentalsNow, lockNow, room.trans roomWas, ?_, ?_⟩
  · obtain ⟨own, unlock⟩ := lanes n
    exact ⟨own.trans (by rw [lane]; rfl), unlock⟩
  · show ({ u.relinked.link with tx := _, answers := _ } : MediaLink) = _
    rw [State.relinked]
    dsimp only
    rw [notices]
    dsimp only
    cases answers : s.link.answers <;> rfl
  · refine Frame.onlyViewing (frameWas.trans untuned.frame) rfl (untuned.charges.trans chargesWas) (untuned.line.trans lineWas)
      roomNow rfl

end Sys2Proof.Machine
end

section
/-! SUPPORT. PIN attempts (R74, R76), and what a request that reaches the lock and the lanes leaves (R81, R83, R85). -/

namespace Sys2Proof.Machine

variable {s t u x : State} {n m : Screen}

/-! ### An answered request -/

/-- The reply to a request is all that it writes of the media link beside the notices (R185, R186). -/
theorem OnlyViewing.sent (only : OnlyViewing (s.setTx .idle) u) (reply : MlReply) :
    OnlyViewing s { u.send reply with link := { (u.send reply).link with tx := s.link.tx } } := by
  obtain ⟨frame, notices⟩ := only
  rw [OnlyNotices] at notices
  obtain ⟨⟩ := u
  dsimp only at frame notices
  rw [frame]
  constructor
  · rfl
  · show MediaLink.mk .. = _
    rw [notices]
    rfl

theorem OnlyNotices.linkFrame (only : OnlyNotices (s.setTx .idle) u) (reply : MlReply) : LinkFrame s (u.send reply) := by
  rw [LinkFrame]
  show { u.link with tx := MlTx.sending reply } = _
  rw [only]
  rfl

/-- A lock swapped for another before and after. -/
theorem OnlyViewing.relocked (h : OnlyViewing s t) (lock : LockUnit) : OnlyViewing { s with lock := lock } { t with lock := lock } := by
  obtain ⟨only, notices⟩ := h
  exact ⟨congrArg (fun x : State => { x with lock := lock }) only, notices⟩

/-! ### The PIN of a request -/

/-- A PIN laid out behind other bytes is the PIN that those bytes carry (R199). -/
theorem carriedPin_behind (front pin : List Byte) : carriedPin (front ++ pin) front.length = carriedPin pin 0 := by
  simp [carriedPin, field, Nat.add_comm front.length]

theorem carriedPin_two (front : List Byte) (hi lo : Byte) :
    carriedPin (front ++ [hi, lo]) front.length = pinOf (hi.toNat * 256 + lo.toNat) := by
  rw [carriedPin_behind, carriedPin, if_neg (by simp), field_two]

/-- The state after a PIN condition has been met (R74). -/
def State.pinRight (s : State) : State := if s.lock.pin = none then s else s.setFailures 0

theorem State.judgePin_of_met {carried : Option Nat} (met : s.PinMet carried) (required : Bool) :
    s.judgePin required carried = (s.pinRight, none) := State.judgePin_met met required

/-- A right PIN sets the failure count to 0, and raises a PIN notice at most (R74). -/
theorem State.pinRight_spec (s : State) :
    s.pinRight.lock = { s.lock with failures := s.failuresMet } ∧ OnlyNotices s s.pinRight ∧
      s.pinRight = { s with lock := s.pinRight.lock, link := s.pinRight.link } := by
  unfold State.pinRight State.failuresMet
  split
  · exact ⟨rfl, rfl, rfl⟩
  · unfold State.setFailures
    split
    next zero => exact ⟨by rw [← zero], rfl, rfl⟩
    · exact ⟨rfl, rfl, rfl⟩

theorem State.pinRight_onlyViewing (s : State) : OnlyViewing s { s.pinRight with lock := s.lock } := by
  obtain ⟨-, notices, only⟩ := s.pinRight_spec
  refine ⟨?_, notices⟩
  generalize s.pinRight = t at only
  rw [only]

theorem State.lane_pinRight (s : State) : s.pinRight.lane = s.lane := by
  obtain ⟨-, -, only⟩ := s.pinRight_spec
  rw [only]
  rfl

/-! ### A write of the lock, and the admission after it -/

/-- A lane admitted after a write of the lock: the lock is as written, and only viewing follows (R52). -/
theorem State.admitLane_relocked (s : State) {w : State} (wrote : OnlyViewing s { w with lock := s.lock })
    (lanes : w.lane = s.lane) (n : Screen) :
    (w.admitLane n).lock = w.lock ∧ (∀ m, ((w.admitLane n).lane m).settings = (s.lane m).settings) ∧
      OnlyViewing s { w.admitLane n with lock := s.lock } := by
  have view := Viewing.admitLane w n
  refine ⟨view.lock_eq, fun m => (view.settings m).trans (congrArg Lane.settings (congrFun lanes m)), ?_⟩
  exact wrote.trans (view.only.relocked s.lock)

/-- Entitlement locks no screen out (R47). -/
theorem State.entitlement_ne_locked {e : LineupEntry} : s.entitlement n e ≠ .blank .locked := by
  have sale (service seconds : Nat) : s.saleVerdict n service seconds ≠ .blank .locked := fun locked => by
    have bar := s.bar_saleVerdict n service seconds
    rw [locked] at bar
    cases bar
  unfold State.entitlement
  split
  · nofun
  · split <;> nofun
  · exact sale _ _
  · split
    · exact sale _ _
    · nofun

/-- A screen that holds an unlock for its tuned service is not locked out (R71). -/
theorem State.bar_ne_locked {service stop : Nat} (tuned : (s.lane n).tuned = some service)
    (unlock : s.unlockOf n = some ⟨service, stop⟩) : s.bar n ≠ some .locked := by
  intro barred
  obtain ⟨verdict, -⟩ := Verdict.bar_eq_some.mp barred
  have unbarred (rating : Rating) (adult : Bool) : s.locked n service rating adult = false := by
    simp [State.locked, State.holdsUnlock, unlock]
  by_cases shut : (s.lane n).shutdown = true
  · rw [State.verdict_shutdown (by simp [tuned]) shut] at verdict
    cases verdict
  · have running := Bool.eq_false_iff.mpr shut
    cases entry : s.entry service with
    | none =>
      rw [State.verdict_unknown tuned running entry] at verdict
      cases verdict
    | some e =>
      rw [State.verdict_of_entry tuned running entry, unbarred] at verdict
      split at verdict
      · cases verdict
      · split at verdict
        · cases verdict
        · exact State.entitlement_ne_locked verdict

/-! ### UNLOCK, RELOCK and SET_CEILINGS -/

theorem State.mlAct_unlock {a : Byte} {service : Nat} (names : a.toNat = n.val) (tuned : (s.lane n).tuned = some service)
    {pin : List Byte} (met : s.PinMet (carriedPin pin 0)) :
    s.mlAct .unlock (a :: pin) = ((s.pinRight.grantUnlock n service).admitLane n).reportAnswer n := by
  rw [State.mlAct, field_first, State.unlockRequest, screenOf_toNat names]
  dsimp only
  rw [tuned]
  dsimp only
  rw [show carriedPin (a :: pin) 1 = carriedPin pin 0 from carriedPin_behind [a] pin, State.judgePin_of_met met]

theorem State.mlAct_relock {a : Byte} (names : a.toNat = n.val) :
    s.mlAct .relock [a] = (if s.unlockOf n = none then s else s.endUnlock n).reportAnswer n := by
  rw [State.mlAct, field_first, State.relockRequest, screenOf_toNat names]
  dsimp only
  cases s.unlockOf n <;> rfl

theorem State.mlAct_setCeilings {a v l x y : Byte} (names : a.toNat = n.val) {pin : List Byte}
    (met : s.PinMet (carriedPin pin 0)) : s.mlAct .setCeilings (a :: v :: l :: x :: y :: pin) =
      ((s.pinRight.setCeiling n ⟨min v.toNat 15, min l.toNat 15, min x.toNat 15, min y.toNat 15⟩).admitLane n).reportAnswer n := by
  rw [State.mlAct, field_first, State.ceilingsRequest, screenOf_toNat names]
  dsimp only
  rw [show carriedPin (a :: v :: l :: x :: y :: pin) 5 = carriedPin pin 0 from carriedPin_behind [a, v, l, x, y] pin, State.judgePin_of_met met,
    ← quadBytes_eq v l x y pin]
  rfl

/-- A request answered with the report of its screen, behind what it did (R63, R185). -/
theorem exec_request_reports (ready : s.Ready) {k : MlKind} (tag : Byte) {body : List Byte} (fits : body.length ∈ k.bodyLengths)
    (acts : (s.setTx .idle).mlAct k body = u.reportAnswer n) :
    ∃ t, exec (k.request tag body) s = .next t ∧ Replied s t ⟨k.code, tag, body⟩ .ok (.screen (t.screenReport n)) ∧
      t = u.send ⟨k.code, tag, .ok, .screen (u.screenReport n)⟩ := by
  obtain ⟨done, replied⟩ := exec_request_of_ready ready tag ((State.judgeRequest_of_length fits).trans acts)
  exact ⟨_, done, replied, rfl⟩

/-- Settles O50: a write of the lock behind the PIN, one admission, and the rule that what the lock lifts does not bar. -/
theorem screensAreUnlockedRelockedAndLimited : Obligations.ScreensAreUnlockedRelockedAndLimited := by
  intro s tag a v l x y n pin service ready names two
  obtain ⟨pinLock, -, pinOnly⟩ := (s.setTx .idle).pinRight_spec
  have pinViewing := (s.setTx .idle).pinRight_onlyViewing
  have pinLane := (s.setTx .idle).lane_pinRight
  refine ⟨fun met tuned => ?_, ?_, fun met => ?_⟩
  · obtain ⟨t, done, replied, eq⟩ := exec_request_reports (k := .unlock) (body := a :: pin) ready tag
      (by rcases two with rfl | two <;> simp [MlKind.bodyLengths, *]) (State.mlAct_unlock (s := s.setTx .idle) names tuned met)
    refine ⟨t, done, replied, ?_⟩
    subst eq
    have clock : (s.setTx .idle).pinRight.runEnd (s.setTx .idle).pinRight.room.terms.unlockHold =
        min (s.clock.run + s.room.terms.unlockHold) 4294967295 := by
      rw [pinOnly]
      rfl
    generalize (s.setTx .idle).pinRight = p at *
    have unlock : (p.grantUnlock n service).unlockOf n = some ⟨service, p.runEnd p.room.terms.unlockHold⟩ :=
      State.unlockOf_setUnlock_self ..
    have others : ∀ m ≠ n, (p.grantUnlock n service).unlockOf m = p.unlockOf m := fun m other =>
      State.unlockOf_setUnlock_ne _ other _
    have wrote : (p.grantUnlock n service).lock = { s.lock with
        failures := s.failuresMet, unlocks := (p.grantUnlock n service).lock.unlocks } := by
      refine Eq.trans (b := { p.lock with unlocks := (p.grantUnlock n service).lock.unlocks }) rfl ?_
      rw [pinLock]
      rfl
    obtain ⟨lock, settings, only⟩ := State.admitLane_relocked (s := s.setTx .idle) (w := p.grantUnlock n service) pinViewing pinLane n
    have lifted := (Rules.free (State.bar_ne_locked (s := p.grantUnlock n service)
      ((congrArg Lane.tuned (congrFun pinLane n)).trans tuned) unlock) ⟨nofun, nofun⟩).admitLane (.refl _) (m := n) (.inl rfl)
    have was : ∀ m, p.unlockOf m = s.unlockOf m := fun m => congrArg (·.unlocks.get m) pinLock
    have view := Viewing.admitLane (p.grantUnlock n service) n
    have unlocks := view.unlockOf
    clear view
    generalize (p.grantUnlock n service).admitLane n = z at *
    refine ⟨OnlyNotices.linkFrame only.2 _, (unlocks n).trans (unlock.trans ?_), lifted,
      fun m other => (unlocks m).trans ((others m other).trans (was m)), settings, ?_, only.sent _⟩
    · rw [clock]
    · show z.lock = { s.lock with failures := s.failuresMet, unlocks := z.lock.unlocks }
      rw [lock]
      exact wrote
  · obtain ⟨t, done, replied, eq⟩ := exec_request_reports (k := .relock) (body := [a]) ready tag (by simp [MlKind.bodyLengths])
      (State.mlAct_relock (s := s.setTx .idle) names)
    refine ⟨t, done, replied, ?_⟩
    subst eq
    by_cases locked : s.unlockOf n = none
    · rw [if_pos (show (s.setTx .idle).unlockOf n = none from locked)]
      exact ⟨rfl, locked, fun m other => rfl, fun m => rfl, rfl, fun _ => rfl, rfl, rfl⟩
    · rw [if_neg (show ¬ (s.setTx .idle).unlockOf n = none from locked)]
      have gone : ((s.setTx .idle).setUnlock n none).unlockOf n = none := State.unlockOf_setUnlock_self ..
      have others : ∀ m ≠ n, ((s.setTx .idle).setUnlock n none).unlockOf m = s.unlockOf m := fun m other =>
        State.unlockOf_setUnlock_ne (s.setTx .idle) other none
      obtain ⟨lock, settings, only⟩ := State.admitLane_relocked (s := s.setTx .idle) (w := (s.setTx .idle).setUnlock n none)
        (.refl _) rfl n
      have unlocks := (Viewing.admitLane ((s.setTx .idle).setUnlock n none) n).unlockOf
      rw [State.endUnlock]
      generalize ((s.setTx .idle).setUnlock n none).admitLane n = z at *
      refine ⟨OnlyNotices.linkFrame only.2 _, (unlocks n).trans gone, fun m other => (unlocks m).trans (others m other), settings,
        ?_, fun none => absurd none locked, only.sent _⟩
      show z.lock = { s.lock with unlocks := z.lock.unlocks }
      rw [lock]
      rfl
  · obtain ⟨t, done, replied, eq⟩ := exec_request_reports (k := .setCeilings) (body := a :: v :: l :: x :: y :: pin) ready tag
      (by rcases two with rfl | two <;> simp [MlKind.bodyLengths, *]) (State.mlAct_setCeilings (s := s.setTx .idle) names met)
    refine ⟨t, done, replied, ?_⟩
    subst eq
    generalize (⟨min v.toNat 15, min l.toNat 15, min x.toNat 15, min y.toNat 15⟩ : Rating) = quad
    generalize (s.setTx .idle).pinRight = p at *
    have own : (p.setCeiling n quad).ceiling n = quad := State.ceiling_setCeiling_self ..
    have others : ∀ m ≠ n, (p.setCeiling n quad).ceiling m = p.ceiling m := fun m other => State.ceiling_setCeiling_ne _ other quad
    have was : ∀ m, p.ceiling m = s.ceiling m := fun m => congrArg (·.ceilings.get m) pinLock
    have wrote : (p.setCeiling n quad).lock = { s.lock with
        failures := s.failuresMet, ceilings := (p.setCeiling n quad).lock.ceilings } := by
      refine Eq.trans (b := { p.lock with ceilings := (p.setCeiling n quad).lock.ceilings }) rfl ?_
      rw [pinLock]
      rfl
    obtain ⟨lock, settings, only⟩ := State.admitLane_relocked (s := s.setTx .idle) (w := p.setCeiling n quad) pinViewing pinLane n
    have ceilings := (Viewing.admitLane (p.setCeiling n quad) n).ceiling
    generalize (p.setCeiling n quad).admitLane n = z at *
    refine ⟨OnlyNotices.linkFrame only.2 _, (ceilings n).trans own, fun m other => (ceilings m).trans ((others m other).trans (was m)),
      settings, ?_, only.sent _⟩
    show z.lock = { s.lock with failures := s.failuresMet, ceilings := z.lock.ceilings }
    rw [lock]
    exact wrote

/-! ### The room PIN changed -/

/-- What a change of the room PIN leaves (R77). -/
theorem State.changePin_spec (s : State) (pin : Option Nat) :
    (s.changePin pin).lock = { s.lock with pin := pin, failures := 0, lockout := false, lockoutEnd := none } ∧
      (∀ m, ((s.changePin pin).lane m).settings = (s.lane m).settings) ∧
      OnlyViewing s { s.changePin pin with lock := s.lock } ∧
      (s.link.modes.pin = .every → Shows (s.changePin pin) .pin (.pin ⟨pin.isSome, 0, false, none⟩)) := by
  have view := Viewing.admitAll { s with lock := { s.lock.noLockout with pin := pin } }
  have link := view.only.2
  have lock := view.lock_eq
  unfold State.changePin
  generalize State.admitAll { s with lock := { s.lock.noLockout with pin := pin } } = z at *
  refine ⟨lock, view.settings, (view.trans (.raise ..)).only.of_lock, fun every => ?_⟩
  have mode : z.link.modes.of .pin = .every := by
    rw [link]
    exact every
  have shown : z.pinView = ⟨pin.isSome, 0, false, none⟩ := by
    unfold State.pinView
    rw [lock]
    rfl
  rw [← shown]
  exact State.raise_shows_of_every mode (.pin z.pinView) false

/-- Settles O51: PIN_CLEAR behind the frame that was heard, SET_PIN behind the old PIN. -/
theorem thePinIsChanged : Obligations.ThePinIsChanged := by
  intro s address tag hi lo old
  refine ⟨fun here => ?_, fun ready two met => ?_⟩
  · obtain ⟨lock, settings, only, shows⟩ := s.hearFrame.changePin_spec none
    obtain ⟨lanes, -, lockWas, -, -⟩ := s.hearFrame_blocks
    have modes := s.hearFrame_modes
    have latched := s.hearFrame_latched
    have acts : s.hearFrame.plAct .pinClear [] [] = (s.hearFrame.changePin none, .none) := rfl
    generalize s.hearFrame.changePin none = z at *
    obtain ⟨-, -, line, -, -⟩ := only.stands
    dsimp only at line
    obtain ⟨t, done, answered, flags, frame⟩ := exec_answered here (kind := .pinClear) (body := []) rfl acts (by rw [line])
    have lockNow : t.lock = z.lock := by rw [frame]
    have lane : t.lane = z.lane := by rw [frame]; rfl
    have link : t.link = z.link := by rw [frame]
    refine ⟨t, done, answered, ?_, ?_, fun m => ?_, ?_, fun every => (shows (by rw [modes]; exact every)).of_link link⟩
    · rw [flags, line, latched]
    · rw [lockNow, lock, lockWas]
    · rw [lane, settings, lanes]
    · rw [frame]
      rw [lockWas] at only
      exact only.heard
  · obtain ⟨pinLock, pinNotices, -⟩ := (s.setTx .idle).pinRight_spec
    have pinViewing := (s.setTx .idle).pinRight_onlyViewing
    have pinLane := (s.setTx .idle).lane_pinRight
    have acts : (s.setTx .idle).mlAct .setPin (hi :: lo :: old) =
        ((s.setTx .idle).pinRight.changePin (pinOf (hi.toNat * 256 + lo.toNat)), .ok, .none) := by
      have carried : carriedPin (hi :: lo :: old) 2 = carriedPin old 0 := carriedPin_behind [hi, lo] old
      have chosen : field (hi :: lo :: old) 0 2 = hi.toNat * 256 + lo.toNat := field_two hi lo
      rw [State.mlAct, State.setPinRequest, carried, chosen, State.judgePin_of_met (s := s.setTx .idle) met]
    obtain ⟨done, replied⟩ := exec_request_of_ready (k := .setPin) (body := hi :: lo :: old) ready tag
      ((State.judgeRequest_of_length (by rcases two with rfl | two <;> simp [MlKind.bodyLengths, *])).trans acts)
    refine ⟨_, done, replied, ?_⟩
    clear done replied acts
    rw [← show pinOf (hi.toNat * 256 + lo.toNat) = if hi.toNat * 256 + lo.toNat = 65535 then none
      else some (min (hi.toNat * 256 + lo.toNat) 9999) from rfl]
    generalize pinOf (hi.toNat * 256 + lo.toNat) = pin
    generalize (s.setTx .idle).pinRight = p at *
    obtain ⟨lock, settings, only, shows⟩ := p.changePin_spec pin
    generalize p.changePin pin = z at *
    have only' : OnlyViewing (s.setTx .idle) { z with lock := s.lock } := pinViewing.trans (only.relocked s.lock)
    have stored : z.lock = { s.lock with pin := pin, failures := 0, lockout := false, lockoutEnd := none } := by
      rw [lock, pinLock]
      rfl
    refine ⟨OnlyNotices.linkFrame only'.2 _, stored, fun m => (settings m).trans (congrArg Lane.settings (congrFun pinLane m)),
      only'.sent _, fun every => ?_⟩
    have shown : pin = z.lock.pin := by rw [stored]
    show Shows z .pin (.pin ⟨z.lock.pin.isSome, 0, false, none⟩)
    rw [← shown]
    refine shows ?_
    rw [pinNotices]
    exact every

/-! ### A failed PIN attempt -/

/-- A request whose owner judges this PIN first, and has no effect where it is refused (R74, R76). -/
abbrev State.Requires (s : State) (k : MlKind) (body : List Byte) (carried : Option Nat) : Prop :=
  ∀ v refusal, s.judgePin true carried = (v, some refusal) → s.judgeRequest k body = (v, refusal, .none)

theorem State.requires_unlock {a : Byte} (names : a.toNat = n.val) (tuned : (s.lane n).tuned.isSome) {pin : List Byte}
    (two : pin = [] ∨ pin.length = 2) : s.Requires .unlock (a :: pin) (carriedPin (a :: pin) 1) := fun v refusal refused => by
  obtain ⟨service, own⟩ := Option.isSome_iff_exists.mp tuned
  rw [State.judgeRequest_of_length (by rcases two with rfl | two <;> simp [MlKind.bodyLengths, *]), State.mlAct, field_first,
    State.unlockRequest, screenOf_toNat names]
  dsimp only
  rw [own]
  dsimp only
  rw [refused]

theorem State.requires_setCeilings {a v l x y : Byte} (names : a.toNat = n.val) {pin : List Byte} (two : pin = [] ∨ pin.length = 2) :
    s.Requires .setCeilings (a :: v :: l :: x :: y :: pin) (carriedPin (a :: v :: l :: x :: y :: pin) 5) :=
  fun w refusal refused => by
    rw [State.judgeRequest_of_length (by rcases two with rfl | two <;> simp [MlKind.bodyLengths, *]), State.mlAct, field_first,
      State.ceilingsRequest, screenOf_toNat names]
    dsimp only
    rw [refused]

theorem State.requires_setPin {x y : Byte} {pin : List Byte} (two : pin = [] ∨ pin.length = 2) :
    s.Requires .setPin (x :: y :: pin) (carriedPin (x :: y :: pin) 2) := fun w refusal refused => by
  rw [State.judgeRequest_of_length (by rcases two with rfl | two <;> simp [MlKind.bodyLengths, *]), State.mlAct,
    State.setPinRequest, refused]

/-- A wrong PIN, by the failure count it finds (R74, R78). -/
theorem State.wrongPin_eq (low : s.lock.failures < 3) : s.wrongPin =
    ({ s with lock := { s.lock with
        failures := s.lock.failures + 1
        lockout := if s.lock.failures = 2 then true else s.lock.lockout
        lockoutEnd := if s.lock.failures = 2 then some (min (s.clock.run + 900) 4294967295) else s.lock.lockoutEnd } }).raisePin
      (decide (s.lock.failures = 2)) := by
  unfold State.wrongPin
  by_cases two : s.lock.failures = 2
  · simp [two, State.runEnd]
  · rw [if_pos (by show s.lock.failures + 1 < 3; omega)]
    simp [two]

/-- A missing PIN is no attempt (R76). -/
theorem State.Requires.missing {k : MlKind} {body : List Byte} {pin : Nat} (set : s.lock.pin = some pin) (ready : s.Ready)
    (tag : Byte) (requires : (s.setTx .idle).Requires k body none) :
    ∃ t, exec (k.request tag body) s = .next t ∧ OnlyReplied s t ⟨k.code, tag, body⟩ .pinRequired .none :=
  exec_request_onlyReplied ready (requires _ _ (State.judgePin_missing (s := s.setTx .idle) set true))

/-- A PIN carried is refused during a lockout, and counted where it is wrong (R74, R78). -/
theorem State.Requires.failed {k : MlKind} {body : List Byte} {pin c : Nat} (set : s.lock.pin = some pin) (ok : s.lock.Ok)
    (ready : s.Ready) (tag : Byte) (requires : (s.setTx .idle).Requires k body (some c)) :
    ∃ t, exec (k.request tag body) s = .next t ∧
      (s.lock.lockout = true → OnlyReplied s t ⟨k.code, tag, body⟩ .pinLocked .none) ∧
      (s.lock.lockout = false → c ≠ pin →
        Replied s t ⟨k.code, tag, body⟩ .pinWrong .none ∧ LinkFrame s t ∧
        t = { s with link := t.link, lock := { s.lock with
          failures := s.lock.failures + 1
          lockout := decide (s.lock.failures = 2)
          lockoutEnd := if s.lock.failures = 2 then some (min (s.clock.run + 900) 4294967295) else none } } ∧
        (s.link.modes.pin = .every ∨ (s.link.modes.pin = .faultOnly ∧ s.lock.failures = 2) →
          Shows t .pin (.pin t.pinView))) := by
  obtain ⟨bound, third, stop, -⟩ := ok
  by_cases locked : s.lock.lockout = true
  · obtain ⟨t, done, replied⟩ := exec_request_onlyReplied (tag := tag) ready
      (requires _ _ (State.judgePin_lockedOut (s := s.setTx .idle) set locked true c))
    exact ⟨t, done, fun _ => replied, fun free => absurd (locked.symm.trans free) nofun⟩
  · have free := Bool.eq_false_iff.mpr locked
    obtain ⟨answer, judged⟩ : ∃ answer : Answer, (s.setTx .idle).judgeRequest k body =
        (((s.setTx .idle).judgeRequest k body).1, answer) := ⟨_, rfl⟩
    by_cases right : c = pin
    · obtain ⟨done, -⟩ := exec_request_of_ready ready tag judged
      exact ⟨_, done, fun yes => absurd yes locked, fun _ wrong => absurd right wrong⟩
    · have low : s.lock.failures < 3 := Nat.lt_of_le_of_ne bound fun three => locked (third.mpr three)
      have none : s.lock.lockoutEnd = none := by
        rw [← Option.not_isSome_iff_eq_none]
        exact fun some => locked (stop.mp some)
      obtain ⟨done, replied⟩ := exec_request_of_ready ready tag
        (requires _ _ (State.judgePin_wrong (s := s.setTx .idle) set free right true))
      rw [State.wrongPin_eq (s := s.setTx .idle) low] at done replied
      refine ⟨_, done, fun yes => absurd yes locked, fun _ _ => ⟨replied, rfl, ?_, fun mode => ?_⟩⟩
      · have lockout : (if s.lock.failures = 2 then true else s.lock.lockout) = decide (s.lock.failures = 2) := by
          rw [free]
          split <;> simp [*]
        rw [← lockout, ← none]
        rfl
      · refine State.raise_shows (p := .pin) ?_
        rw [MediaLink.files_iff]
        rcases mode with every | ⟨faultOnly, two⟩
        · exact .inl every
        · exact .inr (.inr ⟨faultOnly, decide_eq_true two⟩)

/-- Settles O52: the three requests judge their PIN alike, before anything else of theirs. -/
theorem aFailedPinAttemptCounts : Obligations.AFailedPinAttemptCounts := by
  intro s tag a v l x y hi lo n pin c ready names tuned set ok
  refine ⟨fun listed carries => ?_, fun listed => ?_⟩
  · have carried (front : List Byte) : carriedPin (front ++ [hi, lo]) front.length = some (min (hi.toNat * 256 + lo.toNat) 9999) :=
      (carriedPin_two front hi lo).trans (if_neg carries)
    simp only [List.mem_cons, List.not_mem_nil, or_false] at listed
    rcases listed with rfl | rfl | rfl
    · have requires := State.requires_unlock (s := s.setTx .idle) names tuned (pin := [hi, lo]) (.inr rfl)
      rw [show carriedPin [a, hi, lo] 1 = _ from carried [a]] at requires
      exact requires.failed (k := .unlock) set ok ready tag
    · have requires := State.requires_setCeilings (s := s.setTx .idle) (v := v) (l := l) (x := x) (y := y) names (pin := [hi, lo]) (.inr rfl)
      rw [show carriedPin [a, v, l, x, y, hi, lo] 5 = _ from carried [a, v, l, x, y]] at requires
      exact requires.failed (k := .setCeilings) set ok ready tag
    · have requires := State.requires_setPin (s := s.setTx .idle) (x := x) (y := y) (pin := [hi, lo]) (.inr rfl)
      rw [show carriedPin [x, y, hi, lo] 2 = _ from carried [x, y]] at requires
      exact requires.failed (k := .setPin) set ok ready tag
  · simp only [List.mem_cons, List.not_mem_nil, or_false] at listed
    rcases listed with rfl | rfl | rfl | rfl
    · exact State.Requires.missing (k := .unlock) set ready tag (State.requires_unlock (s := s.setTx .idle) names tuned (.inl rfl))
    · exact State.Requires.missing (k := .setCeilings) set ready tag (State.requires_setCeilings (s := s.setTx .idle) names (.inl rfl))
    · exact State.Requires.missing (k := .setPin) set ready tag (State.requires_setPin (s := s.setTx .idle) (.inl rfl))
    · have requires := State.requires_unlock (s := s.setTx .idle) names tuned (pin := [255, 255]) (.inr rfl)
      rw [show carriedPin [a, 255, 255] 1 = none from (carriedPin_two [a] 255 255).trans (if_pos (by simp))] at requires
      exact requires.missing (k := .unlock) set ready tag

end Sys2Proof.Machine
end

section
/-! SUPPORT. The seat that a release hands to the oldest waiter (R55, R120), and a lane tuned (R45). -/

namespace Sys2Proof.Machine

variable {s t u : State} {n m : Screen}

/-! ### Rentals found by their service -/

theorem State.rentalOf_of_mem (services : (s.rentals.map (·.service)).Nodup) {r : Rental} (held : r ∈ s.rentals) :
    s.rentalOf r.service = some r := by
  obtain ⟨x, found⟩ := Option.isSome_iff_exists.mp
    (List.find?_isSome.mpr ⟨r, held, beq_self_eq_true r.service⟩ : (s.rentalOf r.service).isSome)
  have same : x.service = r.service := beq_iff_eq.mp (List.find?_some (p := fun y : Rental => y.service == r.service) found)
  exact found.trans (congrArg some (List.inj_on_of_nodup_map services (List.mem_of_find?_eq_some found) held same))

/-- Who sits where does not say which rental is of a service (R112). -/
theorem State.rentalOf_of_unseated (unseated : t.rentals.map Rental.unseated = s.rentals.map Rental.unseated) (service : Nat) :
    (t.rentalOf service).map Rental.unseated = (s.rentalOf service).map Rental.unseated := by
  have found := congrArg (List.find? fun r : Rental => r.service == service) unseated
  rwa [List.find?_map, List.find?_map] at found

/-! ### What a report shows of a lane with a seat -/

theorem State.seatView_of_holding {service : Nat} (tuned : (s.lane n).tuned = some service) (holding : (s.lane n).standing = .holding) :
    s.seatView n = ((s.rentalOf service).map Rental.unseated).map (fun r => .holding r.index) := by
  unfold State.seatView
  rw [tuned]
  dsimp only
  cases s.rentalOf service with
  | none => rfl
  | some r =>
    dsimp only
    rw [holding]
    rfl

/-- The report of a lane that is OPEN on a seat reads its record, and which rental its service has (R62). -/
theorem State.laneView_of_holding (lane : t.lane n = s.lane n) (opened : (s.lane n).state = .opened)
    (holding : (s.lane n).standing = .holding) (unseated : t.rentals.map Rental.unseated = s.rentals.map Rental.unseated) :
    t.laneView n = s.laneView n := by
  have seat : t.seatView n = s.seatView n := by
    cases tuned : (s.lane n).tuned with
    | none => simp [State.seatView, lane, tuned]
    | some service =>
      rw [State.seatView_of_holding tuned holding, State.seatView_of_holding (by rw [lane, tuned]) (by rw [lane, holding]),
        State.rentalOf_of_unseated unseated]
  simp [State.laneView, seat, lane, opened, State.previewLeft]

/-! ### The seat handed on -/

theorem Viewing.leave (s : State) (n : Screen) : Viewing s (s.leave n) :=
  (Viewing.mapTunedRental s n (·.without n) (fun _ => rfl)).trans (.setLane _ n _ (by rw [State.lane_mapTunedRental]; rfl))

/-- A holder leaves its rental, whose waiting list stands (R55). -/
theorem State.SeatLaw.leave_holding (law : s.SeatLaw) {r : Rental} (held : r ∈ s.rentals) (seat : n ∈ r.seats) :
    r.without n ∈ (s.leave n).rentals ∧ (r.without n).waiting = r.waiting ∧
      s.release n = Machine.handOver r.service r.waiting (s.leave n) := by
  obtain ⟨holding, tuned⟩ := ((law.placed n).seats r held).mp seat
  have rentals : (s.leave n).rentals = s.rentals.map fun x => if (s.lane n).tuned = some x.service then x.without n else x :=
    s.rentals_mapTunedRental n _
  have left : r.without n ∈ (s.leave n).rentals := by
    rw [rentals]
    exact List.mem_map.mpr ⟨r, held, if_pos tuned⟩
  have apart : (r.without n).waiting = r.waiting := List.filter_eq_self.mpr fun w waits => decide_eq_true fun same => by
    obtain ⟨standing, -⟩ := ((law.placed w).waiting r held).mp waits
    subst same
    cases holding.symm.trans standing
  have waiting : (s.leave n).waitingOf r.service = r.waiting := by
    rw [State.waitingOf, show (s.leave n).rentalOf r.service = some (r.without n) from
      State.rentalOf_of_mem (law.leave n).services left]
    exact apart
  refine ⟨left, apart, ?_⟩
  rw [s.release_eq]
  unfold State.handOn
  rw [holding, tuned]
  dsimp only
  rw [waiting]

/-- The oldest waiter that no check bars takes the seat (R55, R120). -/
theorem State.SeatLaw.release_seats (law : s.SeatLaw) {r : Rental} (held : r ∈ s.rentals) (seat : n ∈ r.seats) {w : Screen}
    {rest : List Screen} (waits : r.waiting = w :: rest) (keeps : ((s.leave n).give r.service w).verdict w = .seatKeep) :
    (r.without n).seat w ∈ (s.release n).rentals ∧ ((s.release n).lane w).state = .opened ∧
      ((s.release n).lane w).standing = .holding ∧
      ((s.lane w).state ≠ .opened → s.link.modes.lane = .every →
        Shows (s.release n) (.lane w) (.lane ((s.release n).laneView w))) := by
  obtain ⟨left, -, eq⟩ := law.leave_holding held seat
  have place : w ∈ r.waiting := by simp [waits]
  have apart : w ≠ n := fun same => by
    obtain ⟨standing, -⟩ := ((law.placed w).waiting r held).mp place
    obtain ⟨holding, -⟩ := ((law.placed n).seats r held).mp seat
    cases holding.symm.trans (same ▸ standing)
  rw [eq, waits, handOver_cons, if_pos keeps]
  have given : (r.without n).seat w ∈ ((s.leave n).give r.service w).rentals :=
    List.mem_map.mpr ⟨r.without n, left, if_pos (beq_self_eq_true r.service)⟩
  have lane : ((s.leave n).give r.service w).lane w = { s.lane w with standing := .holding } := by
    rw [State.lane_give_self, State.lane_leave_ne s apart]
  have modes : ((s.leave n).give r.service w).link.modes = s.link.modes := by
    rw [((Viewing.leave s n).trans (.give _ r.service w)).only.2]
  clear keeps eq left
  generalize (s.leave n).give r.service w = v at *
  refine ⟨?_, ?_, ?_, fun closed every => ?_⟩
  · rw [State.rentals_settle]
    exact List.mem_map.mpr ⟨_, given, ite_self _⟩
  · rw [State.lane_settle_self]
    rfl
  · rw [State.lane_settle_self]
    rfl
  · have differs : ¬ LaneState.opened = (v.lane w).state := by
      rw [lane]
      exact fun same => closed same.symm
    unfold State.settle
    dsimp only
    unfold State.change
    dsimp only
    rw [if_neg differs]
    exact State.raise_shows_of_every (p := .lane w) (by
      show v.link.modes.lane = .every
      rw [modes, every]) _ _

/-- An OCCUPIED room's waiter for a FILM whose screen nothing bars takes the seat it is given (R47, R55). -/
theorem State.SeatLaw.keeps_given (law : s.SeatLaw) {r : Rental} (held : r ∈ s.rentals) (n : Screen) {w : Screen}
    (place : w ∈ r.waiting) (running : (s.lane w).shutdown = false) (occupied : s.room.occupancy = .occupied)
    (passes : (ratingCompare (s.lane w).rating (s.ceiling w)).any = false) {e : LineupEntry} (entry : s.entry r.service = some e)
    (adult : e.adult = false) (film : e.terms.code = 2) : ((s.leave n).give r.service w).verdict w = .seatKeep := by
  obtain ⟨-, tuned⟩ := ((law.placed w).waiting r held).mp place
  have view := (Viewing.leave s n).trans (.give _ r.service w)
  have bars := view.bars
  have found := State.rentalOf_of_unseated view.unseated r.service
  have holding : (((s.leave n).give r.service w).lane w).standing = .holding := by rw [State.lane_give_self]
  clear view
  generalize (s.leave n).give r.service w = v at *
  rw [State.verdict_of_occupied ((bars.tuned w).trans tuned) ((bars.shutdown w).trans running)
    ((congrFun bars.entry r.service).trans entry) (bars.occupancy.trans occupied) adult, if_neg (by
      rw [bars.rating, bars.locked, State.not_locked passes]
      exact Bool.false_ne_true)]
  have own : e.service = r.service := State.service_of_entry entry
  rw [State.rentalOf_of_mem law.services held] at found
  obtain ⟨x, rented, -⟩ := Option.map_eq_some_iff.mp found
  cases terms : e.terms with
  | film code seconds =>
    simp only [State.entitlement, terms, own]
    unfold State.saleVerdict
    rw [rented]
    dsimp only
    rw [holding]
  | _ => simp [terms, Terms.code] at film

/-! ### Beside a lane -/

/-- What stands of the other lanes and services when one lane takes up another service, or none. -/
structure Beside (n : Screen) (service : Nat) (s t : State) : Prop where
  rentals : ∀ x ∈ s.rentals, x.service ≠ service → x ∈ t.rentals
  lanes : ∀ m ≠ n, t.lane m = s.lane m
  shows : ∀ m ≠ n, ∀ v, Shows s (.lane m) v → Shows t (.lane m) v
  unseated : t.rentals.map Rental.unseated = s.rentals.map Rental.unseated

theorem Beside.trans {service : Nat} (h : Beside n service s t) (k : Beside n service t u) : Beside n service s u where
  rentals x held other := k.rentals x (h.rentals x held other) other
  lanes m apart := (k.lanes m apart).trans (h.lanes m apart)
  shows m apart v shown := k.shows m apart v (h.shows m apart v shown)
  unseated := k.unseated.trans h.unseated

theorem Beside.untuneLane (s : State) (n : Screen) (service : Nat) : Beside n service (s.release n) (s.untuneLane n) := by
  obtain ⟨-, -, -, others⟩ := s.untuneLane_spec n
  obtain ⟨l, eq⟩ := s.untuneLane_eq n
  have rentals : (s.untuneLane n).rentals = (s.release n).rentals := by rw [eq]; rfl
  refine ⟨fun x held _ => rentals ▸ held, fun m apart => (others m apart).1, fun m apart v shown => ?_, by rw [rentals]⟩
  unfold State.untuneLane
  dsimp only
  split
  · exact shown
  · exact Shows.raise (s := ((s.release n).setUnlock n none).setLane n _) shown (by simpa using apart) _ _

theorem Beside.setKeyMiss (s : State) (n : Screen) (miss : Bool) (service : Nat) : Beside n service s (s.setKeyMiss n miss) where
  rentals x held _ := s.rentals_setKeyMiss n miss ▸ held
  lanes m apart := State.lane_setKeyMiss_ne s apart miss
  shows m apart v shown := by
    unfold State.setKeyMiss
    split
    · exact shown
    · exact Shows.raise (s := s.setLane n _) shown (by simpa using apart) _ _
  unseated := by rw [s.rentals_setKeyMiss]

theorem Beside.settle {service : Nat} (tuned : (s.lane n).tuned = some service) (v : Verdict) :
    Beside n service s (s.settle n v) where
  rentals x held other := by
    rw [s.rentals_settle]
    refine List.mem_map.mpr ⟨x, held, if_neg fun own => other ?_⟩
    exact Option.some.inj (own.symm.trans tuned)
  lanes m apart := State.lane_settle_ne s apart v
  shows m apart v shown := shown.settle (by simpa using apart) _
  unseated := (Viewing.settle s n v).unseated

/-! ### A lane tuned -/

/-- A released lane has no standing (R55). -/
theorem State.lane_release_self (s : State) (n : Screen) : (s.release n).lane n = { s.lane n with standing := .none } := by
  rw [← s.lane_leave_self, s.release_eq]
  unfold State.handOn
  split
  next service _ tuned =>
    refine State.lane_handOver_ne fun waits => ?_
    obtain ⟨r, held, own, among⟩ := State.mem_waitingOf waits
    rw [show (s.leave n).rentals = _ from s.rentals_mapTunedRental n (·.without n)] at held
    obtain ⟨x, -, rfl⟩ := List.mem_map.mp held
    split at own
    next same =>
      rw [if_pos same] at among
      exact (Rental.mem_waiting_without.mp among).2 rfl
    next other => exact other (own ▸ tuned)
  · rfl

/-- What a TUNE has done before it admits its lane (R45). -/
theorem State.tuned_spec (s : State) (n : Screen) (service : Nat) :
    Retuned s (s.tuned n service) ∧ Beside n service (s.release n) (s.tuned n service) ∧
      (s.tuned n service).lane n = { s.lane n with
        standing := .none, tuned := some service, keyMiss := false, rating := s.lineupRating service, previewEnd := none } ∧
      (∀ m ≠ n, (s.tuned n service).unlockOf m = s.unlockOf m) ∧
      (s.tuned n service).room = (s.release n).room ∧ (s.tuned n service).rentals = (s.release n).rentals := by
  have view := Viewing.release s n
  have own := s.lane_tuned n service
  have released := s.lane_release_self n
  have rating : (s.release n).lineupRating service = s.lineupRating service := by
    rw [State.lineupRating, view.bars.entry]
    rfl
  have kept : (s.tuned n service).room = (s.release n).room ∧ (s.tuned n service).rentals = (s.release n).rentals ∧
      Frame (s.release n) (s.tuned n service) ∧ (s.tuned n service).charges = (s.release n).charges ∧
      (s.tuned n service).line = (s.release n).line ∧ OnlyNotices (s.release n) (s.tuned n service) ∧
      (s.tuned n service).lock = { (s.release n).lock with unlocks := (s.tuned n service).lock.unlocks } := by
    obtain ⟨only, notices⟩ := (((s.release n).setUnlock n none).retune n service).setKeyMiss_frame n false
    unfold State.tuned
    generalize (((s.release n).setUnlock n none).retune n service).setKeyMiss n false = w at *
    rw [only]
    exact ⟨rfl, rfl, ⟨rfl, rfl, rfl, rfl, rfl, rfl, rfl, rfl⟩, rfl, rfl, notices, rfl⟩
  have unlocks : ∀ m ≠ n, (s.tuned n service).unlockOf m = (s.release n).unlockOf m := fun m apart =>
    (State.setKeyMiss_unlocks _ n false m).2.trans (State.unlockOf_setUnlock_ne (s.release n) apart none)
  have taken : Beside n service (s.release n) (((s.release n).setUnlock n none).retune n service) :=
    ⟨fun _ held _ => held, fun m apart => State.lane_retune_ne ((s.release n).setUnlock n none) service apart,
      fun _ _ _ shown => shown, rfl⟩
  have beside : Beside n service (s.release n) (s.tuned n service) := taken.trans (.setKeyMiss ..)
  have lanes := fun m => s.lane_tuned_ne service (n := n) (m := m)
  clear taken
  generalize s.tuned n service = t at *
  generalize s.release n = v at *
  obtain ⟨room, rentals, frame, charges, line, notices, lock⟩ := kept
  obtain ⟨lock', charges', line', room', notices'⟩ := view.only.stands
  refine ⟨⟨view.only.frame.trans frame, ?_, charges.trans charges', line.trans line', ?_, notices'.trans notices, ?_, fun m => ?_⟩,
    beside, ?_, fun m apart => (unlocks m apart).trans (view.unlockOf m), room, rentals⟩
  · rw [room]
    exact room'
  · rw [lock, lock']
  · rw [rentals]
    exact view.unseated
  · by_cases same : m = n
    · rw [same, own, released]
    · rw [lanes m same]
      exact congrArg (·.2.2.2) (view.settings m)
  · rw [own, released, rating]

/-- A tuned lane has no seat to hand on: its admission is its outcome alone (R45, R51). -/
theorem State.tuneTo_settle (s : State) (n : Screen) (service : Nat) :
    s.tuneTo n service = (s.tuned n service).settle n ((s.tuned n service).verdict n) := by
  obtain ⟨-, -, lane, -⟩ := s.tuned_spec n service
  have free : ((s.tuned n service).lane n).standing ≠ .holding := by
    rw [lane]
    nofun
  exact State.admitAs_of_free free _

theorem State.mlAct_tune {a : Byte} {service : Nat} (names : a.toNat = n.val) (first : 1 ≤ service) (last : service ≤ 4095) :
    s.mlAct .tune (a :: beBytes 2 service) = (s.tuneTo n service).reportAnswer n := by
  have read : field (a :: beBytes 2 service) 1 2 = service := by
    have laid := field_beBytes (n := service) (len := 2) (by omega) [a] []
    rwa [List.append_nil] at laid
  rw [State.mlAct, field_first, read, serviceOf_of_le last, State.tuneRequest, screenOf_toNat names]
  exact if_neg (by omega)

theorem State.mlAct_untune {a : Byte} (names : a.toNat = n.val) : s.mlAct .untune [a] = (s.untuneLane n).reportAnswer n := by
  rw [State.mlAct, field_first, State.untuneRequest, screenOf_toNat names]

end Sys2Proof.Machine
end

section
/-! PROOFS. TUNE and UNTUNE (R45, R46, R55, R63). -/

namespace Sys2Proof.Machine

variable {s t : State} {n : Screen}

/-- A preview end behind a TUNE is that of a preview which begins (R45, R50). -/
theorem State.previewEnd_tuneTo {service stop : Nat} (ends : stop ∈ ((s.tuneTo n service).lane n).previewEnd) :
    service ∉ (s.release n).room.previewUsed ∧
      ∃ e ∈ s.entry service, ∃ k ∈ e.terms.previewSeconds, 0 < k ∧ stop = min (s.clock.run + k) 4294967295 := by
  obtain ⟨retuned, -, lane, -, room, -⟩ := s.tuned_spec n service
  have suits := (s.tuned n service).verdict_suits n
  rw [s.tuneTo_settle, State.lane_settle_self] at ends
  obtain ⟨-, -, clock, lineup, -⟩ := retuned.frame
  by_cases begins : ∃ k, (s.tuned n service).verdict n = .previewStart k
  · obtain ⟨k, verdict⟩ := begins
    obtain ⟨-, positive, own, e, tuned, entry, listed, new⟩ := State.verdict_begins verdict
    rw [lane] at tuned
    cases tuned
    rw [State.entry, lineup] at entry
    rw [verdict] at ends
    refine ⟨room ▸ new, e, entry, k, listed, positive, ?_⟩
    have stop' : some ((s.tuned n service).runEnd k) = some stop := ends
    rw [← Option.some.inj stop', State.runEnd, clock]
  · have keeps : (s.tuned n service).verdict n ≠ .previewKeep := fun keeps => by
      rw [keeps] at suits
      obtain ⟨-, -, -, -, stop⟩ := suits
      rw [lane] at stop
      cases stop
    have none := (Verdict.outcome_previewEnd (s := s.tuned n service) (n := n) (fun k same => begins ⟨k, same⟩) keeps).1
    rw [none] at ends
    cases ends

/-- What a release hands on is still so when its lane has been tuned elsewhere or left untuned (R55, R62, R120). -/
theorem Beside.handed {u : State} {service : Nat} (law : s.SeatLaw) (ok : s.SeatsOk) {r : Rental} (held : r ∈ s.rentals)
    (seat : n ∈ r.seats) (other : r.service ≠ service) (beside : Beside n service (s.release n) u) :
    ∃ x ∈ u.rentals, x.index = r.index ∧
      (r.waiting = [] → (∀ m : Screen, m ∈ x.seats ↔ m ∈ r.seats ∧ m ≠ n) ∧ x.waiting = []) ∧
      (∀ w rest, r.waiting = w :: rest → (s.lane w).shutdown = false → s.room.occupancy = .occupied →
        (ratingCompare (s.lane w).rating (s.ceiling w)).any = false →
        ∀ e ∈ s.entry r.service, e.adult = false → e.terms.code = 2 →
          (∀ m : Screen, m ∈ x.seats ↔ (m ∈ r.seats ∧ m ≠ n) ∨ m = w) ∧ x.waiting = rest ∧
          (u.lane w).state = .opened ∧ (u.lane w).standing = .holding ∧
          (s.link.modes.lane = .every → Shows u (.lane w) (.lane (u.laneView w)))) := by
  obtain ⟨left, stands, eq⟩ := law.leave_holding held seat
  cases waits : r.waiting with
  | nil =>
    refine ⟨r.without n, ?_, rfl, fun _ => ⟨fun m => Rental.mem_seats_without, stands.trans waits⟩, nofun⟩
    refine beside.rentals _ ?_ other
    rw [eq, waits]
    exact left
  | cons w rest =>
    have place : w ∈ r.waiting := by simp [waits]
    by_cases keeps : ((s.leave n).give r.service w).verdict w = .seatKeep
    · obtain ⟨seated, opened, holding, shows⟩ := law.release_seats held seat waits keeps
      refine ⟨(r.without n).seat w, beside.rentals _ seated other, rfl, nofun, ?_⟩
      rintro _ _ ⟨⟩ - - - - - - -
      have apart : w ≠ n := fun same => by
        obtain ⟨waiting, -⟩ := ((law.placed w).waiting r held).mp place
        obtain ⟨holds, -⟩ := ((law.placed n).seats r held).mp seat
        cases holds.symm.trans (same ▸ waiting)
      have lane := beside.lanes w apart
      refine ⟨fun m => ?_, ?_, by rw [lane, opened], by rw [lane, holding], fun every => ?_⟩
      · rw [Rental.mem_seats_seat, Rental.mem_seats_without, or_comm]
      · have once : (w :: rest).Nodup := waits ▸ (law.tidy r held).waiting
        show (r.without n).waiting.filter (· ≠ w) = rest
        rw [stands, waits, List.filter_cons, if_neg (by simp), List.filter_eq_self]
        exact fun m among => decide_eq_true fun same => (List.nodup_cons.mp once).1 (same ▸ among)
      · obtain ⟨-, -, -, lanes⟩ := ok
        have waiting := (lanes w).2.2.mpr (((law.placed w).waiting r held).mp place).1
        have shown := beside.shows w apart _ (shows (by rw [waiting]; nofun) every)
        rwa [State.laneView_of_holding lane opened holding beside.unseated]
    · have unseated := beside.unseated.trans (Viewing.release s n).unseated
      obtain ⟨x, among, same⟩ := List.mem_map.mp (unseated ▸ List.mem_map_of_mem (f := Rental.unseated) held)
      refine ⟨x, among, congrArg (·.index) same, nofun, ?_⟩
      rintro _ _ ⟨⟩ running occupied passes e entry adult film
      exact absurd (law.keeps_given held n place running occupied passes entry adult film) keeps

/-- Settles O48: the seat released first, the lane retuned or untuned, and then admitted without any standing. -/
theorem aLaneIsTunedAndUntuned : Obligations.ALaneIsTunedAndUntuned := by
  intro s tag a n service ready names first last
  have two : (a :: beBytes 2 service).length ∈ MlKind.tune.bodyLengths := by simp [MlKind.bodyLengths]
  obtain ⟨t, tDone, tReplied, tEq⟩ := exec_request_reports (k := .tune) ready tag two
    (State.mlAct_tune (s := s.setTx .idle) names first last)
  obtain ⟨u, uDone, uReplied, uEq⟩ := exec_request_reports (k := .untune) (body := [a]) ready tag (by simp [MlKind.bodyLengths])
    (State.mlAct_untune (s := s.setTx .idle) names)
  obtain ⟨retuned, beside, lane, unlocks, -, -⟩ := (s.setTx .idle).tuned_spec n service
  have unlock := (s.setTx .idle).unlockOf_tuned n service
  have ends := fun stop => State.previewEnd_tuneTo (s := s.setTx .idle) (n := n) (service := service) (stop := stop)
  have settled := (s.setTx .idle).tuneTo_settle n service
  have besideTune : Beside n service ((s.setTx .idle).release n) ((s.setTx .idle).tuneTo n service) := by
    rw [settled]
    exact beside.trans (.settle (by rw [lane]) _)
  refine ⟨⟨t, tDone, tReplied, ?_⟩, ⟨u, uDone, uReplied, ?_⟩, fun r held ok seat other c listed => ?_⟩
  · subst tEq
    have view := Viewing.settle ((s.setTx .idle).tuned n service) n (((s.setTx .idle).tuned n service).verdict n)
    have others : ∀ m ≠ n, (((s.setTx .idle).tuned n service).lane m).settings = (s.lane m).settings := fun m apart =>
      (congrArg Lane.settings (beside.lanes m apart)).trans ((Viewing.release (s.setTx .idle) n).settings m)
    have law (ok : s.SeatsOk) : (s.setTx .idle).SeatLaw := State.SeatsOk.seatLaw (s := s.setTx .idle) ok
    have room (ok : s.SeatsOk) : ((s.setTx .idle).release n).room = s.room := (law ok).room_release n
    rw [← settled] at view
    clear besideTune settled beside law
    generalize (s.setTx .idle).tuneTo n service = z at *
    generalize (s.setTx .idle).tuned n service = w at *
    generalize (s.setTx .idle).release n = v at *
    have only : OnlyViewing (s.setTx .idle) { z with lock := s.lock } := retuned.onlyViewing.trans (view.only.relocked s.lock)
    have lock : z.lock = { s.lock with unlocks := z.lock.unlocks } := by
      rw [view.lock_eq]
      exact retuned.lock
    refine ⟨OnlyNotices.linkFrame only.2 _, ?_, fun stop stops => ?_, (view.unlockOf n).trans unlock, lock,
      fun m apart => ⟨(view.settings m).trans (others m apart), (view.unlockOf m).trans (unlocks m apart)⟩,
      view.unseated.trans retuned.unseated, only.sent _⟩
    · refine (view.settings n).trans ?_
      rw [lane, ← State.lineupRating_eq]
      rfl
    · obtain ⟨new, begun⟩ := ends stop stops
      exact ⟨fun ok => room ok ▸ new, begun⟩
  · subst uEq
    obtain ⟨untuned, unlock, own, others⟩ := (s.setTx .idle).untuneLane_spec n
    have settings : ∀ m ≠ n, (((s.setTx .idle).untuneLane n).lane m).settings = (s.lane m).settings := fun m apart =>
      (congrArg Lane.settings (others m apart).1).trans ((Viewing.release (s.setTx .idle) n).settings m)
    generalize (s.setTx .idle).untuneLane n = z at *
    exact ⟨OnlyNotices.linkFrame untuned.onlyViewing.2 _, own, unlock, untuned.lock,
      fun m apart => ⟨settings m apart, (others m apart).2⟩, untuned.unseated, untuned.onlyViewing.sent _⟩
  · have law : (s.setTx .idle).SeatLaw := State.SeatsOk.seatLaw (s := s.setTx .idle) ok
    simp only [List.mem_cons, List.not_mem_nil, or_false] at listed
    rcases listed with rfl | rfl
    · obtain ⟨x, among, index, handed⟩ := (Beside.untuneLane (s.setTx .idle) n service).handed law ok held seat other
      subst uEq
      exact ⟨_, x, uDone, among, index, handed⟩
    · obtain ⟨x, among, index, handed⟩ := besideTune.handed law ok held seat other
      subst tEq
      exact ⟨_, x, tDone, among, index, handed⟩

end Sys2Proof.Machine
end

section
/-! PROOFS. Admission at a TUNE by its ordered checks (R47 to R50). -/

namespace Sys2Proof.Machine

variable {s t w : State} {n m : Screen}

/-- A lane that has just taken up a service: no standing, no preview end, no unlock, and in no waiting list (R45). -/
structure State.Fresh (s : State) (n : Screen) (service : Nat) : Prop where
  tuned : (s.lane n).tuned = some service
  free : (s.lane n).standing = .none
  ended : (s.lane n).previewEnd = none
  unlock : s.unlockOf n = none
  apart : ∀ r ∈ s.rentals, n ∉ r.waiting

/-- A release of a lane without a standing, in no list, only repeats what it is (R55). -/
theorem State.release_of_free (free : (s.lane n).standing = .none) (apart : ∀ r ∈ s.rentals, n ∉ r.seats ∧ n ∉ r.waiting) :
    (s.release n).rentals = s.rentals ∧ (s.release n).room = s.room ∧ ∀ m ≠ n, (s.release n).lane m = s.lane m := by
  have left : s.release n = s.leave n := by
    rw [s.release_eq]
    exact State.handOn_of_free (by rw [free]; nofun)
  rw [left]
  refine ⟨?_, s.room_leave n, fun m other => s.lane_leave_ne other⟩
  rw [show (s.leave n).rentals = _ from s.rentals_mapTunedRental n (·.without n)]
  refine (List.map_congr_left fun r held => ?_).trans (List.map_id _)
  obtain ⟨seats, waiting⟩ := apart r held
  split
  · have stays {list : List Screen} (out : n ∉ list) : list.filter (· ≠ n) = list :=
      List.filter_eq_self.mpr fun m among => decide_eq_true fun same : m = n => out (same ▸ among)
    show ({ r with seats := r.seats.filter (· ≠ n), waiting := r.waiting.filter (· ≠ n) } : Rental) = r
    rw [stays seats, stays waiting]
  · rfl

/-- Without an unlock the lock is the rating compare, or the room PIN for an adult service (R69 to R71). -/
theorem State.locked_iff (unlock : s.unlockOf n = none) {service : Nat} {q : Rating} {adult : Bool} :
    s.locked n service q adult = true ↔ (s.ceiling n).age < q.age ∨ (s.ceiling n).violence < q.violence ∨
      (s.ceiling n).language < q.language ∨ (s.ceiling n).sexual < q.sexual ∨ (adult = true ∧ s.lock.pin.isSome = true) := by
  simp [State.locked, State.underLock, State.holdsUnlock, unlock, ratingCompare, Places.any, or_assoc]

namespace State.Fresh

variable {service : Nat}

/-- A rented service gives the lane a free seat, or a place at the end of the waiting list (R49). -/
theorem rented (fresh : w.Fresh n service) {r : Rental} (found : w.rentalOf service = some r) {v : Verdict} {seconds : Nat}
    (verdict : v = w.saleVerdict n service seconds) :
    if r.seats.length < r.allowance then
      ((w.settle n v).lane n).state = .opened ∧ ((w.settle n v).lane n).standing = .holding ∧
        ∃ x ∈ (w.settle n v).rentals, x.index = r.index ∧ n ∈ x.seats ∧ x.waiting = r.waiting
    else
      ((w.settle n v).lane n).state = .blank .seatWait ∧ ((w.settle n v).lane n).standing = .waiting ∧
        ∃ x ∈ (w.settle n v).rentals, x.index = r.index ∧ x.seats = r.seats ∧ x.waiting = r.waiting ++ [n] := by
  have held : r ∈ w.rentals := List.mem_of_find?_eq_some found
  have own : r.service = service := beq_iff_eq.mp (List.find?_some (p := fun x : Rental => x.service == service) found)
  have tuned : (w.lane n).tuned = some r.service := own ▸ fresh.tuned
  have judged : v = if r.seats.length < r.allowance then .seatGrant else .waitJoin := by
    rw [verdict]
    unfold State.saleVerdict
    rw [found]
    dsimp only
    rw [fresh.free]
  have among (f : Rental → Rental) : f r ∈ w.rentals.map fun x => if (w.lane n).tuned = some x.service then f x else x :=
    List.mem_map.mpr ⟨r, held, if_pos tuned⟩
  rw [State.lane_settle_self, State.rentals_settle]
  split
  next place =>
    rw [judged, if_pos place]
    refine ⟨rfl, rfl, r.seat n, among (·.seat n), rfl, Rental.mem_seats_seat.mpr (.inl rfl), ?_⟩
    exact List.filter_eq_self.mpr fun m waits => decide_eq_true fun same : m = n => fresh.apart r held (same ▸ waits)
  next full =>
    rw [judged, if_neg full]
    exact ⟨rfl, rfl, r.join n, among (·.join n), rfl, rfl, rfl⟩

/-- A service that is not rented gives a preview, once (R50, R105). -/
theorem unrented (fresh : w.Fresh n service) (absent : w.rentalOf service = none) {v : Verdict} {seconds : Nat}
    (verdict : v = w.saleVerdict n service seconds) {previews : Option Nat} (given : previews = some seconds) :
    if (∃ k ∈ previews, 0 < k) ∧ service ∉ w.room.previewUsed then
      ((w.settle n v).lane n).state = .preview ∧ service ∈ (w.settle n v).room.previewUsed ∧
        ((w.settle n v).lane n).previewEnd = previews.map fun k => min (w.clock.run + k) 4294967295
    else ((w.settle n v).lane n).state = .blank .purchaseNeeded := by
  have judged : v = if 0 < seconds ∧ service ∉ w.room.previewUsed then .previewStart seconds else .blank .purchaseNeeded := by
    rw [verdict]
    unfold State.saleVerdict
    rw [absent]
    dsimp only
    rw [if_neg (by simp [fresh.ended])]
    simp
  subst given
  rw [State.lane_settle_self]
  split
  next begins =>
    rw [judged, if_pos (by simpa using begins)]
    refine ⟨rfl, ?_, rfl⟩
    unfold State.settle
    dsimp only
    rw [fresh.tuned]
    exact mem_addUsed ..
  next used =>
    rw [judged, if_neg (by simpa using used)]
    rfl

/-- A preview end stands only in PREVIEW (R51). -/
theorem previewEnd (fresh : w.Fresh n service) (outside : ((w.settle n (w.verdict n)).lane n).state ≠ .preview) :
    ((w.settle n (w.verdict n)).lane n).previewEnd = none := by
  rw [State.lane_settle_self] at outside ⊢
  have suits := w.verdict_suits n
  refine (Verdict.outcome_previewEnd (fun k begins => outside ?_) fun keeps => ?_).1
  · rw [begins]
    rfl
  · rw [keeps] at suits
    obtain ⟨-, -, -, -, stop⟩ := suits
    rw [fresh.ended] at stop
    cases stop

end State.Fresh

/-- A TUNE of a lane without a standing changes that lane alone, and judges it afresh (R45, R47). -/
theorem State.fresh_tuned (free : (s.lane n).standing = .none) (apart : ∀ r ∈ s.rentals, n ∉ r.seats ∧ n ∉ r.waiting)
    (service : Nat) : (s.tuned n service).Fresh n service ∧ (s.tuned n service).rentals = s.rentals ∧
      (s.tuned n service).room = s.room ∧ ∀ m ≠ n, (s.tuned n service).lane m = s.lane m := by
  obtain ⟨-, beside, lane, -, room, rentals⟩ := s.tuned_spec n service
  obtain ⟨rentals', room', lanes⟩ := State.release_of_free free apart
  refine ⟨⟨by rw [lane], by rw [lane], by rw [lane], s.unlockOf_tuned n service, fun r held => ?_⟩, rentals.trans rentals',
    room.trans room', fun m other => (beside.lanes m other).trans (lanes m other)⟩
  rw [rentals, rentals'] at held
  exact (apart r held).2

/-- Settles O49: the ordered checks of the verdict, each with the outcome it settles. -/
theorem aTuneIsAdmittedByTheOrderedChecks : Obligations.ATuneIsAdmittedByTheOrderedChecks := by
  intro s tag a n service ready names first last free _ apart
  obtain ⟨t, done, -, eq⟩ := exec_request_reports (k := .tune) (body := a :: beBytes 2 service) ready tag
    (by simp [MlKind.bodyLengths]) (State.mlAct_tune (s := s.setTx .idle) names first last)
  refine ⟨t, done, ?_⟩
  subst eq
  obtain ⟨fresh, rentals, room, lanes⟩ := State.fresh_tuned (s := s.setTx .idle) free apart service
  obtain ⟨retuned, -, lane, -⟩ := (s.setTx .idle).tuned_spec n service
  obtain ⟨-, -, clock, lineup, -⟩ := retuned.frame
  have lock := retuned.lock
  rw [(s.setTx .idle).tuneTo_settle]
  generalize (s.setTx .idle).tuned n service = w at *
  clear retuned done
  have entryNow : w.entry service = s.entry service := by rw [State.entry, lineup]; rfl
  have shutdown : (w.lane n).shutdown = (s.lane n).shutdown := by rw [lane]; rfl
  have ceiling : w.ceiling n = s.ceiling n := by rw [State.ceiling, lock]; rfl
  have pin : w.lock.pin = s.lock.pin := by rw [lock]; rfl
  have found : w.rentalOf service = s.rentals.find? (fun r => r.service == service) := by rw [State.rentalOf, rentals]; rfl
  have blanked (reason : BlankReason) (verdict : w.verdict n = .blank reason) :
      ((w.settle n (w.verdict n)).lane n).state = .blank reason := by
    rw [State.lane_settle_self, verdict]
    rfl
  have opens (verdict : w.verdict n = .openFree) : ((w.settle n (w.verdict n)).lane n).state = .opened := by
    rw [State.lane_settle_self, verdict]
    rfl
  refine ⟨?_, fresh.previewEnd, fun m other => (State.lane_settle_ne w other _).trans (lanes m other)⟩
  by_cases shut : (s.lane n).shutdown = true
  · rw [if_pos shut]
    exact blanked _ (State.verdict_shutdown (by simp [fresh.tuned]) (shutdown.trans shut))
  · rw [if_neg shut]
    have running : (w.lane n).shutdown = false := shutdown.trans (Bool.eq_false_iff.mpr shut)
    cases entry : s.lineup.active.find? (fun e => e.service == service) with
    | none => exact blanked _ (State.verdict_unknown fresh.tuned running (entryNow.trans entry))
    | some e =>
      have rating : (w.lane n).rating = e.rating := by
        rw [lane]
        show (s.setTx .idle).lineupRating service = e.rating
        rw [State.lineupRating_eq]
        show quadOf s.lineup.active service = e.rating
        rw [quadOf, entry]
      have verdict := State.verdict_of_entry fresh.tuned running (entryNow.trans entry)
      have own : e.service = service := State.service_of_entry (s := s) entry
      rw [room] at verdict
      dsimp only
      by_cases vacant : s.room.occupancy ≠ .occupied ∧ e.terms.code ≠ 0
      · rw [if_pos vacant]
        refine blanked _ (verdict.trans (if_pos ⟨vacant.1, fun isFree => vacant.2 ?_⟩))
        cases terms : e.terms <;> simp [terms, Terms.isFree, Terms.code] at isFree ⊢
      · rw [if_neg vacant]
        replace verdict := verdict.trans (if_neg fun both => vacant ⟨both.1, fun code => both.2 (by
          cases terms : e.terms <;> simp [terms, Terms.isFree, Terms.code] at code ⊢)⟩)
        by_cases adult : e.adult = true ∧ s.room.terms.adult = false
        · rw [if_pos adult]
          exact blanked _ (verdict.trans (if_pos ⟨adult.1, Bool.eq_false_iff.mp adult.2⟩))
        · rw [if_neg adult]
          replace verdict := verdict.trans (if_neg fun both => adult ⟨both.1, Bool.eq_false_iff.mpr both.2⟩)
          have judged := State.locked_iff fresh.unlock (service := service) (q := e.rating) (adult := e.adult)
          rw [ceiling, pin] at judged
          rw [rating] at verdict
          by_cases locked : w.locked n service e.rating e.adult = true
          · rw [if_pos (judged.mp locked)]
            exact blanked _ (verdict.trans (if_pos locked))
          · rw [if_neg (fun bars => locked (judged.mpr bars))]
            replace verdict := verdict.trans (if_neg locked)
            unfold State.entitlement at verdict
            cases terms : e.terms with
            | free =>
              simp only [terms] at verdict
              exact opens verdict
            | package k =>
              simp only [terms, room] at verdict
              dsimp only
              split
              next permitted => exact opens (verdict.trans (if_pos permitted))
              next barred => exact blanked _ (verdict.trans (if_neg barred))
            | film code seconds =>
              simp only [terms, own] at verdict
              dsimp only
              rw [if_neg (by simp [Terms.window])]
              cases rented : s.rentals.find? (fun r => r.service == service) with
              | some r => exact fresh.rented (found.trans rented) verdict
              | none =>
                have sold := fresh.unrented (found.trans rented) verdict (previews := (Terms.film code seconds).previewSeconds) rfl
                rw [room, clock] at sold
                exact sold
            | event code seconds start stop =>
              simp only [terms, own] at verdict
              dsimp only
              by_cases air : w.clock.within start stop = true
              · replace verdict := verdict.trans (if_pos air)
                rw [clock] at air
                obtain ⟨isSet, begun, running⟩ := ClockUnit.within_eq_true.mp air
                rw [if_neg (by
                  rintro ⟨_, ⟨⟩, unset | early | late⟩
                  · exact absurd (isSet.symm.trans unset) nofun
                  · exact absurd begun (Nat.not_le.mpr early)
                  · exact absurd running (Nat.not_lt.mpr late))]
                cases rented : s.rentals.find? (fun r => r.service == service) with
                | some r => exact fresh.rented (found.trans rented) verdict
                | none =>
                  have sold := fresh.unrented (found.trans rented) verdict
                    (previews := (Terms.event code seconds start stop).previewSeconds) rfl
                  rw [room, clock] at sold
                  exact sold
              · rw [if_pos]
                · exact blanked _ (verdict.trans (if_neg air))
                · refine ⟨_, rfl, ?_⟩
                  rw [clock, ClockUnit.within_eq_true] at air
                  by_contra on
                  simp only [not_or, Nat.not_lt, Nat.not_le, Bool.not_eq_false] at on
                  exact air on

end Sys2Proof.Machine
end

section
/-! SUPPORT. The PIN of a request that may do without one (R74, R76). -/

namespace Sys2Proof.Machine

variable {s t u : State} {n m : Screen}

/-- The state after a PIN that passes: a right one is an attempt, and a missing one that was not needed is none (R74, R76). -/
def State.pinJudged (s : State) (carried : Option Nat) : State := if s.PinMet carried then s.pinRight else s

theorem State.judgePin_passes {carried : Option Nat} {required : Bool}
    (passes : s.PinMet carried ∨ (carried = none ∧ required = false)) :
    s.judgePin required carried = (s.pinJudged carried, none) := by
  unfold State.pinJudged
  by_cases met : s.PinMet carried
  · rw [if_pos met, State.judgePin_of_met met]
  · obtain ⟨rfl, rfl⟩ := passes.resolve_left met
    obtain ⟨pin, set⟩ := Option.ne_none_iff_exists'.mp fun none : s.lock.pin = none => met (.inl none)
    rw [if_neg met, State.judgePin_missing set]
    rfl

/-- It writes the PIN record's failure count, and raises a PIN notice at most (R74). -/
theorem State.pinJudged_spec (s : State) (carried : Option Nat) :
    (s.pinJudged carried).lock = { s.lock with failures := if s.PinMet carried then s.failuresMet else s.lock.failures } ∧
      OnlyNotices s (s.pinJudged carried) ∧
      s.pinJudged carried = { s with lock := (s.pinJudged carried).lock, link := (s.pinJudged carried).link } := by
  unfold State.pinJudged
  split
  · exact s.pinRight_spec
  · exact ⟨rfl, rfl, rfl⟩

/-- What the PIN of a request leaves, block by block (R74). -/
theorem State.pinJudged_blocks (s : State) (carried : Option Nat) {p : State} (judged : (s.setTx .idle).pinJudged carried = p) :
    p.charges = s.charges ∧ p.room = s.room ∧ p.rentals = s.rentals ∧ p.lane = s.lane ∧ p.clock = s.clock ∧
      p.nextNumber = s.nextNumber ∧ p.freeIndex = s.freeIndex ∧ (∀ sale, p.saleAmount sale = s.saleAmount sale) ∧
      p.lineup = s.lineup ∧ p.prices = s.prices ∧ p.line = s.line := by
  obtain ⟨-, -, only⟩ := (s.setTx .idle).pinJudged_spec carried
  rw [judged] at only
  rw [only]
  exact ⟨rfl, rfl, rfl, rfl, rfl, rfl, rfl, fun _ => rfl, rfl, rfl, rfl⟩

end Sys2Proof.Machine
end

section
/-! PROOFS. An accepted CANCEL_RENTAL (R125, R126, R139). -/

namespace Sys2Proof.Machine

variable {s t u : State} {n m : Screen}

theorem State.cancelCase_of_charge {r : Rental} {number : Nat} (charged : r.charge = some number) (waived : r.waived = false) :
    s.cancelCase r = if ((s.entryOf number).any fun e => e.state == .waiting) = true then .withdraw number else .credit number := by
  unfold State.cancelCase
  rw [charged]
  dsimp only
  rw [waived]
  cases s.entryOf number with
  | none => rfl
  | some e =>
    simp only [Bool.false_eq_true, if_false, Option.any_some, beq_iff_eq]

theorem State.cancelCase_of_nothing {r : Rental} (nothing : r.charge = none ∨ r.waived = true) : s.cancelCase r = .nothing := by
  unfold State.cancelCase
  cases charged : r.charge with
  | none => rfl
  | some number => simp [nothing.resolve_left (by simp [charged])]

theorem State.entryOf_of_mem (numbers : (s.charges.entries.map (·.number)).Nodup) {e : QueueEntry} (held : e ∈ s.charges.entries) :
    s.entryOf e.number = some e := by
  obtain ⟨x, found⟩ := Option.isSome_iff_exists.mp
    (List.find?_isSome.mpr ⟨e, held, beq_self_eq_true e.number⟩ : (s.entryOf e.number).isSome)
  have same : x.number = e.number := beq_iff_eq.mp (List.find?_some (p := fun y : QueueEntry => y.number == e.number) found)
  exact found.trans (congrArg some (List.inj_on_of_nodup_map numbers (List.mem_of_find?_eq_some found) held same))

/-- The state after an accepted cancel's queue and counters, before the rental ends (R126). -/
def State.refunded (s : State) (r : Rental) : State := { s.cancelQueue r with room := s.room.fall (s.cancelAmount r) }

theorem State.refunded_eq (s : State) (r : Rental) :
    s.refunded r = { s with charges := (s.cancelQueue r).charges, room := s.room.fall (s.cancelAmount r) } := by
  unfold State.refunded
  rw [s.cancelQueue_eq]

/-- What an accepted cancel leaves (R122, R126). -/
theorem State.SeatLaw.acceptCancel (law : s.SeatLaw) {r : Rental} (held : r ∈ s.rentals) :
    OnlyViewing (s.refunded r) (s.acceptCancel r) ∧
      (s.acceptCancel r).rentals = s.rentals.filter (fun x => x.index ≠ r.index) ∧
      ∀ n, ((s.acceptCancel r).lane n).settings = (s.lane n).settings ∧
        ((s.lane n).tuned = some r.service → ((s.acceptCancel r).lane n).standing = .none) ∧
        ((s.lane n).tuned ≠ some r.service → (s.acceptCancel r).lane n = s.lane n) := by
  have stands : (s.refunded r).rentals = s.rentals ∧ (s.refunded r).lane = s.lane := by
    rw [s.refunded_eq]
    exact ⟨rfl, rfl⟩
  obtain ⟨rentals, lanes⟩ := stands
  have law' : (s.refunded r).SeatLaw := law.congr (fun n => by rw [lanes]; exact ⟨rfl, rfl⟩) rentals
  obtain ⟨ended, own, others⟩ := law'.endRental (rentals ▸ held)
  obtain ⟨view, settings, -⟩ := (s.refunded r).endRental_view r.index (by rw [State.rentalAt_of_mem law'.indices (rentals ▸ held)]; rfl)
  rw [rentals] at ended
  rw [lanes] at own others settings
  unfold State.acceptCancel
  dsimp only
  rw [show ({ s.cancelQueue r with room := s.room.fall (s.cancelAmount r) } : State) = s.refunded r from rfl]
  generalize (s.refunded r).endRental r.index = z at *
  split
  · exact ⟨view, ended, fun n => ⟨settings n, own n, others n⟩⟩
  · exact ⟨view.trans (Viewing.raise ..).only, ended, fun n => ⟨settings n, own n, others n⟩⟩

/-- A cancel that passes its checks (R125). -/
theorem State.judgeCancel_passes {r : Rental} (early : r.viewed / 60 < r.grace)
    (free : ∀ e ∈ s.charges.entries, r.charge = some e.number → e.state ≠ .declined) (place : s.charges.entries.length < 12) :
    s.judgeCancel r = none := by
  have declined : s.chargeDeclined r = false := by
    rw [State.chargeDeclined, List.any_eq_false]
    intro e held
    simpa using free e held
  unfold State.judgeCancel
  rw [if_neg (Nat.not_le.mpr early), declined, if_neg Bool.false_ne_true]
  split
  · exact if_neg (Nat.not_le.mpr place)
  · rfl

/-- What an accepted cancel takes off the counters, leaves of the queue and answers with (R126, R139). -/
theorem State.refunded_spec (s : State) (r : Rental) (numbers : (s.charges.entries.map (·.number)).Nodup) :
    (r.charge = none ∨ r.waived = true → (s.cancelQueue r).charges = s.charges ∧ s.creditNumber r = none) ∧
    (s.cancelAmount r = if r.charge = none ∨ r.waived = true then 0 else r.amount) ∧
    (r.waived = false → ∀ number ∈ r.charge,
      ((∃ e ∈ s.charges.entries, e.number = number ∧ e.state = .waiting) → s.creditNumber r = none ∧
        (s.cancelQueue r).charges = { s.charges with entries := s.charges.entries.filter (fun e => e.number ≠ number) }) ∧
      ((∀ e ∈ s.charges.entries, e.number = number → e.state = .offered) → s.creditNumber r = some s.nextNumber ∧
        (s.cancelQueue r).charges.entries = s.charges.entries ++ [⟨.credit number, s.nextNumber, s.room.session, r.service,
          r.amount, s.room.terms.tax, s.clock.count, .waiting⟩])) := by
  refine ⟨fun nothing => ?_, ?_, fun waived number charged => ⟨?_, fun offered => ?_⟩⟩
  · unfold State.cancelQueue State.creditNumber
    rw [State.cancelCase_of_nothing nothing]
    exact ⟨rfl, rfl⟩
  · unfold State.cancelAmount
    by_cases money : r.charge = none ∨ r.waived = true
    · rw [if_pos money, State.cancelCase_of_nothing money]
    · rw [if_neg money]
      obtain ⟨charged, waived⟩ := not_or.mp money
      obtain ⟨number, own⟩ := Option.ne_none_iff_exists'.mp charged
      rw [State.cancelCase_of_charge own (Bool.eq_false_iff.mpr waived)]
      cases (s.entryOf number).any fun e => e.state == .waiting <;> rfl
  · rintro ⟨e, held, rfl, waiting⟩
    have case := State.cancelCase_of_charge (s := s) charged waived
    rw [State.entryOf_of_mem numbers held, Option.any_some, waiting, if_pos (beq_self_eq_true _)] at case
    unfold State.cancelQueue State.creditNumber
    rw [case]
    exact ⟨rfl, rfl⟩
  · have case := State.cancelCase_of_charge (s := s) charged waived
    have notWaiting : ((s.entryOf number).any fun e => e.state == .waiting) = false := by
      cases found : s.entryOf number with
      | none => rfl
      | some e =>
        have own : e.number = number := beq_iff_eq.mp (List.find?_some (p := fun y : QueueEntry => y.number == number) found)
        rw [Option.any_some, offered e (List.mem_of_find?_eq_some found) own]
        rfl
    rw [notWaiting, if_neg Bool.false_ne_true] at case
    unfold State.cancelQueue State.creditNumber
    rw [case]
    exact ⟨rfl, rfl⟩

theorem State.mlAct_cancelRental {r : Rental} {pin : List Byte} (indices : (s.rentals.map (·.index)).Nodup) (held : r ∈ s.rentals)
    (session : r.session = s.room.session)
    (passes : s.PinMet (carriedPin pin 0) ∨ (carriedPin pin 0 = none ∧ s.room.terms.pinOnPurchase = false))
    (judged : (s.pinJudged (carriedPin pin 0)).judgeCancel r = none) :
    s.mlAct .cancelRental (BitVec.ofNat 8 r.index.val :: pin) =
      ((s.pinJudged (carriedPin pin 0)).acceptCancel r, .ok, .cancel r.service
        ((s.pinJudged (carriedPin pin 0)).cancelAmount r) ((s.pinJudged (carriedPin pin 0)).creditNumber r)) := by
  have index : indexOf (BitVec.ofNat 8 r.index.val).toNat = some r.index := by
    have value : (BitVec.ofNat 8 r.index.val).toNat = r.index.val := by
      rw [BitVec.toNat_ofNat]
      omega
    rw [indexOf, dif_pos (by omega)]
    exact congrArg some (Fin.ext value)
  have carried : carriedPin (BitVec.ofNat 8 r.index.val :: pin) 1 = carriedPin pin 0 := carriedPin_behind [_] pin
  rw [State.mlAct, field_first, carried, State.cancelRequest, index, Option.bind_some, State.rentalAt_of_mem indices held]
  dsimp only
  rw [if_neg (fun differs => differs session), State.judgePin_passes passes]
  dsimp only
  rw [judged]

/-- Settles O56: the queue and the counters first, then the end of the rental. -/
theorem aCancelEndsTheRental : Obligations.ACancelEndsTheRental := by
  intro s tag r pin ready ok held session two passes early free numbers place
  obtain ⟨pinLock, pinNotices, -⟩ := (s.setTx .idle).pinJudged_spec (carriedPin pin 0)
  obtain ⟨charges, room, rentals, lanes, clock, number, -⟩ := s.pinJudged_blocks (carriedPin pin 0) rfl
  have acts := State.mlAct_cancelRental (s := s.setTx .idle) (pin := pin) ok.2.1 held session passes
  generalize (s.setTx .idle).pinJudged (carriedPin pin 0) = p at *
  have law : p.SeatLaw := ok.seatLaw.congr (fun n => by rw [lanes]; exact ⟨rfl, rfl⟩) rentals
  obtain ⟨view, ended, lane⟩ := law.acceptCancel (rentals.symm ▸ held)
  have spec := p.refunded_spec r (by rwa [charges])
  obtain ⟨done, replied⟩ := exec_request_of_ready (k := .cancelRental) ready tag ((State.judgeRequest_of_length
    (by rcases two with rfl | two <;> simp [MlKind.bodyLengths, *])).trans
      (acts (State.judgeCancel_passes early (by rwa [charges]) (by rwa [charges]))))
  clear acts
  refine ⟨_, p.creditNumber r, done, ?_⟩
  obtain ⟨lock, queue, -, roomNow, notices⟩ := view.stands
  have frame := view.frame.2.2.1
  have counters : (p.refunded r).room = s.room.fall (p.cancelAmount r) := by rw [p.refunded_eq, room]
  have stood : (p.refunded r).charges = (p.cancelQueue r).charges ∧ (p.refunded r).lock = p.lock ∧ (p.refunded r).link = p.link ∧
      (p.refunded r).clock = p.clock := by
    rw [p.refunded_eq]
    exact ⟨rfl, rfl, rfl, rfl⟩
  obtain ⟨queue', lock', link', clock'⟩ := stood
  rw [counters] at roomNow
  rw [queue'] at queue
  rw [lock', pinLock] at lock
  have noticed : OnlyNotices (s.setTx .idle) (p.acceptCancel r) := by
    have step : OnlyNotices p (p.acceptCancel r) := by
      rw [OnlyNotices, link'] at notices
      exact notices
    exact pinNotices.trans step
  rw [charges, number, room, clock] at spec
  obtain ⟨nothing, amount, money⟩ := spec
  rw [rentals] at ended
  rw [lanes] at lane
  clear notices link' lock' queue' counters view law
  generalize p.acceptCancel r = z at *
  have spend : z.room.spend = s.room.spend - p.cancelAmount r := by rw [roomNow]; rfl
  have billed : z.room.billed = s.room.billed - p.cancelAmount r := by rw [roomNow]; rfl
  refine ⟨noticed.linkFrame _, ended, fun free => ?_, fun waived number charged => ?_, ?_, ?_, lane, lock, frame.trans (clock'.trans clock)⟩
  · obtain ⟨same, credit⟩ := nothing free
    rw [amount, if_pos free] at spend billed
    exact ⟨queue.trans same, spend, billed, credit⟩
  · obtain ⟨waiting, offered⟩ := money waived number charged
    have due : ¬ (r.charge = none ∨ r.waived = true) := by
      rw [Option.mem_def.mp charged, waived]
      simp
    rw [amount, if_neg due] at spend billed
    refine ⟨spend, billed, fun withdrawn => ?_, fun credited => ?_⟩
    · obtain ⟨credit, left⟩ := waiting withdrawn
      exact ⟨credit, queue.trans left⟩
    · obtain ⟨credit, left⟩ := offered credited
      exact ⟨credit, (congrArg (·.entries) queue).trans left⟩
  · rw [← amount]
    exact replied
  · show z.room.history = _
    rw [roomNow]
    rfl

end Sys2Proof.Machine
end

section
/-! SUPPORT. An accepted sale: what the booking, the unlock granted and the admissions behind them leave (R115). -/

namespace Sys2Proof.Machine

variable {s t u : State} {n m : Screen}

/-! ### Admissions of a rented service -/

/-- A service has a rental, and only lanes tuned to it wait for its seats. -/
structure State.Queued (s : State) (service : Nat) : Prop where
  rented : ∃ r ∈ s.rentals, r.service = service
  waits : ∀ r ∈ s.rentals, r.service = service → ∀ w ∈ r.waiting, (s.lane w).tuned = some service

namespace State.Queued

variable {service : Nat}

theorem settle (h : s.Queued service) (n : Screen) (v : Verdict) : (s.settle n v).Queued service := by
  have tuned (m : Screen) : ((s.settle n v).lane m).tuned = (s.lane m).tuned := (Viewing.settle s n v).tuned m
  have kind (r : Rental) : (v.reseat n r).service = r.service := by cases v <;> rfl
  have places (r : Rental) : ∀ w ∈ (v.reseat n r).waiting, w ∈ r.waiting ∨ w = n := by
    intro w among
    cases v with
    | off | blank | openFree | previewStart => exact .inl (Rental.mem_waiting_without.mp among).1
    | seatGrant => exact .inl (Rental.mem_waiting_seat.mp among).1
    | waitJoin => exact Rental.mem_waiting_join.mp among
    | seatKeep | waitKeep | previewKeep => exact .inl among
  obtain ⟨x, held, own⟩ := h.rented
  constructor
  · refine ⟨_, (s.rentals_settle n v).symm ▸ List.mem_map_of_mem held, ?_⟩
    split
    · exact (kind x).trans own
    · exact own
  · intro r among service w waits
    rw [tuned]
    rw [s.rentals_settle, List.mem_map] at among
    obtain ⟨y, was, rfl⟩ := among
    split at service
    next mine =>
      rw [if_pos mine] at waits
      rw [kind] at service
      obtain before | rfl := places y w waits
      · exact h.waits y was service w before
      · rw [mine, service]
    next other =>
      rw [if_neg other] at waits
      exact h.waits y was service w waits

theorem give (h : s.Queued service) (other : Nat) (w : Screen) : (s.give other w).Queued service := by
  have tuned (m : Screen) : ((s.give other w).lane m).tuned = (s.lane m).tuned := (Viewing.give s other w).tuned m
  obtain ⟨x, held, own⟩ := h.rented
  constructor
  · refine ⟨_, List.mem_map_of_mem held, ?_⟩
    dsimp only
    split <;> exact own
  · intro r among service m waits
    rw [tuned]
    obtain ⟨y, was, rfl⟩ := List.mem_map.mp among
    split at service
    next mine =>
      rw [if_pos mine] at waits
      exact h.waits y was service m (Rental.mem_waiting_seat.mp waits).1
    next apart =>
      rw [if_neg apart] at waits
      exact h.waits y was service m waits

theorem admitLane (h : s.Queued service) (n : Screen) : (s.admitLane n).Queued service :=
  admitLane_keeps (law := fun t => t.Queued service) (fun _ m h => h.settle m _) (fun _ other w h => h.give other w) n h

theorem tunedRental (h : s.Queued service) (tuned : (s.lane n).tuned = some service) : s.tunedRental n ≠ none := by
  obtain ⟨r, held, own⟩ := h.rented
  rw [State.tunedRental, tuned, Option.bind_some]
  exact fun none => absurd (List.find?_eq_none.mp none r held) (by simp [own])

/-- No preview of a rented service begins: an admission to it writes nothing of the room (R49, R50). -/
theorem room_admitLane (h : s.Queued service) (tuned : (s.lane n).tuned = some service) : (s.admitLane n).room = s.room := by
  have suits := s.verdict_suits n
  have settled : (s.settle n (s.verdict n)).room = s.room := State.room_settle fun k begins => by
    rw [begins] at suits
    exact h.tunedRental tuned suits.2.2
  have law := h.settle n (s.verdict n)
  unfold State.admitLane State.admitAs
  split
  · refine Eq.trans ?_ settled
    unfold State.handOn
    split
    next other _ own =>
      obtain rfl := Option.some.inj (tuned.symm.trans own)
      refine State.room_handOver fun w waits => law.tunedRental ?_
      obtain ⟨r, held, same, among⟩ := State.mem_waitingOf waits
      exact law.waits r held same w among
    · rfl
  · exact settled

theorem room_admitTuned (h : s.Queued service) (order : List Screen) : (s.admitTuned service order).room = s.room := by
  have kept : (s.admitTuned service order).Queued service ∧ (s.admitTuned service order).room = s.room :=
    foldl_state_keeps (law := fun t => t.Queued service ∧ t.room = s.room) (fun t m ⟨queued, room⟩ => by
      unfold State.admitIfTuned
      split
      next tuned => exact ⟨queued.admitLane m, (queued.room_admitLane tuned).trans room⟩
      · exact ⟨queued, room⟩) order ⟨h, rfl⟩
  exact kept.2

end State.Queued

/-! ### The sale -/

/-- The lowest free index (R111). -/
theorem State.freeIndex_eq {i : Fin 8} (free : ∀ r ∈ s.rentals, r.index ≠ i) (taken : ∀ j < i, ∃ r ∈ s.rentals, r.index = j) :
    s.freeIndex = i := by
  have place : s.rentalAt i = none := List.find?_eq_none.mpr fun r held => by simpa using free r held
  have full (j : Fin 8) (lower : j < i) : (s.rentalAt j).isNone = false := by
    obtain ⟨r, held, own⟩ := taken j lower
    rw [Option.isNone_eq_false_iff]
    exact List.find?_isSome.mpr ⟨r, held, by simp [own]⟩
  have none : (s.rentalAt i).isNone = true := by rw [place]; rfl
  unfold State.freeIndex
  have found : (List.finRange 8).find? (fun j => (s.rentalAt j).isNone) = some i := by
    refine List.find?_eq_some_iff_getElem.mpr ⟨none, i.val, by simp, by simp, fun j lower => ?_⟩
    rw [List.getElem_finRange, full _ (Fin.lt_def.mpr lower)]
    rfl
  exact congrArg (·.getD 0) found

/-- A sale booked, and the unlock it grants (R115 steps 1 to 6). -/
def State.granted (s : State) (n : Screen) (sale : Sale) (grant : Bool) : State :=
  if grant ∧ (s.lane n).tuned = some sale.entry.service then (s.bookSale sale).grantUnlock n sale.entry.service else s.bookSale sale

theorem State.granted_eq (s : State) (n : Screen) (sale : Sale) (grant : Bool) :
    s.granted n sale grant = { s.bookSale sale with lock := (s.granted n sale grant).lock } := by
  unfold State.granted
  split <;> rfl

theorem State.lock_granted (s : State) (n : Screen) (sale : Sale) (grant : Bool) :
    (s.granted n sale grant).lock = { s.lock with unlocks := (s.granted n sale grant).lock.unlocks } ∧
      ∀ m, (s.granted n sale grant).unlockOf m =
        if m = n ∧ grant = true ∧ (s.lane n).tuned = some sale.entry.service then
          some ⟨sale.entry.service, min (s.clock.run + s.room.terms.unlockHold) 4294967295⟩
        else s.unlockOf m := by
  have booked : (s.bookSale sale).lock = s.lock ∧ (s.bookSale sale).runEnd (s.bookSale sale).room.terms.unlockHold =
      min (s.clock.run + s.room.terms.unlockHold) 4294967295 := by
    rw [s.bookSale_eq]
    exact ⟨rfl, rfl⟩
  obtain ⟨lock, stop⟩ := booked
  have unlocks (m : Screen) : (s.bookSale sale).unlockOf m = s.unlockOf m := by rw [State.unlockOf, lock]; rfl
  unfold State.granted
  split
  next grants =>
    refine ⟨Eq.trans (b := { (s.bookSale sale).lock with
        unlocks := ((s.bookSale sale).grantUnlock n sale.entry.service).lock.unlocks }) rfl (by rw [lock]), fun m => ?_⟩
    by_cases own : m = n
    · rw [if_pos ⟨own, grants⟩, own]
      refine (State.unlockOf_setUnlock_self ..).trans ?_
      rw [stop]
    · rw [if_neg fun both => own both.1]
      exact (State.unlockOf_setUnlock_ne _ own _).trans (unlocks m)
  next grants =>
    refine ⟨?_, fun m => ?_⟩
    · rw [lock]
    · rw [if_neg fun both => grants both.2]
      exact unlocks m

/-- Beside the lock and the list a booking writes the queue, the totals, the history and the preview-used list (R115). -/
theorem State.granted_blocks (s : State) (n : Screen) (sale : Sale) (grant : Bool) :
    (s.granted n sale grant).room = { s.room.rise (s.saleAmount sale) with
        history := pushBounded historyCapacity s.room.history s.clock.count
        previewUsed := addUsed s.room.previewUsed sale.entry.service } ∧
      (s.granted n sale grant).link = s.link ∧ (s.granted n sale grant).clock = s.clock ∧
      (s.granted n sale grant).lineup = s.lineup ∧ (s.granted n sale grant).prices = s.prices ∧
      (s.granted n sale grant).line = s.line := by
  rw [s.granted_eq, s.bookSale_eq]
  exact ⟨rfl, rfl, rfl, rfl, rfl, rfl⟩

/-- What an accepted sale leaves (R115). -/
theorem State.acceptSale_spec {sale : Sale} (new : ∀ r ∈ s.rentals, r.service ≠ sale.entry.service) (n : Screen) (grant : Bool) :
    OnlyViewing (s.granted n sale grant) (s.acceptSale n sale grant) ∧
      (s.acceptSale n sale grant).room = (s.granted n sale grant).room ∧
      (∀ m, ((s.acceptSale n sale grant).lane m).settings = (s.lane m).settings) ∧
      (s.acceptSale n sale grant).rentals.map Rental.unseated = s.rentals.map Rental.unseated ++
        [s.newRental sale (if 0 < s.saleAmount sale then some s.nextNumber else none)] := by
  have rentals : (s.granted n sale grant).rentals =
      s.rentals ++ [s.newRental sale (if 0 < s.saleAmount sale then some s.nextNumber else none)] := by
    rw [s.granted_eq, s.bookSale_eq]
  have lanes : (s.granted n sale grant).lane = s.lane := by
    rw [s.granted_eq, s.bookSale_eq]
    rfl
  have queued : (s.granted n sale grant).Queued sale.entry.service := by
    constructor
    · exact ⟨_, rentals ▸ List.mem_append_right _ (List.mem_singleton_self _), rfl⟩
    · intro r held own w waits
      rw [rentals] at held
      obtain was | added := List.mem_append.mp held
      · exact absurd own (new r was)
      · rw [List.mem_singleton.mp added] at waits
        cases waits
  have view := Viewing.admitTuned (s.granted n sale grant) sale.entry.service (purchaseOrder n)
  have room := queued.room_admitTuned (purchaseOrder n)
  have unseated : ((s.granted n sale grant).admitTuned sale.entry.service (purchaseOrder n)).rentals.map Rental.unseated =
      s.rentals.map Rental.unseated ++ [s.newRental sale (if 0 < s.saleAmount sale then some s.nextNumber else none)] := by
    rw [view.unseated, rentals, List.map_append]
    rfl
  have shape : s.acceptSale n sale grant = if 0 < s.saleAmount sale then
      (((s.granted n sale grant).admitTuned sale.entry.service (purchaseOrder n)).raiseRentals).raiseRoom
      else ((s.granted n sale grant).admitTuned sale.entry.service (purchaseOrder n)).raiseRentals := rfl
  rw [shape]
  clear shape queued rentals
  generalize (s.granted n sale grant).admitTuned sale.entry.service (purchaseOrder n) = z at *
  have settings (m : Screen) : (z.lane m).settings = (s.lane m).settings := by rw [view.settings, lanes]
  generalize s.newRental sale (if 0 < s.saleAmount sale then some s.nextNumber else none) = made at *
  have reported := view.trans (Viewing.raise z .rentals (.rentals z.rentalsView) false)
  split
  · exact ⟨(reported.trans (Viewing.raise z.raiseRentals .room (.room z.raiseRentals.roomView) false)).only, room, settings, unseated⟩
  · exact ⟨reported.only, room, settings, unseated⟩

end Sys2Proof.Machine
end

section
/-! PROOFS. An accepted PURCHASE (R113 to R116). -/

namespace Sys2Proof.Machine

variable {s t u : State} {n m : Screen}

theorem State.mlAct_purchase {a : Byte} {service : Nat} (last : service ≤ 4095) (pin : List Byte) :
    s.mlAct .purchase (a :: beBytes 2 service ++ pin) = s.purchaseRequest a.toNat service (carriedPin pin 0) := by
  have read : field (a :: beBytes 2 service ++ pin) 1 2 = service := field_beBytes (n := service) (len := 2) (by omega) [a] pin
  have first : field (a :: beBytes 2 service ++ pin) 0 1 = a.toNat := field_first a _
  have carried : carriedPin (a :: beBytes 2 service ++ pin) 3 = carriedPin pin 0 := by
    have laid := carriedPin_behind (a :: beBytes 2 service) pin
    rwa [show (a :: beBytes 2 service).length = 3 from by simp] at laid
  rw [State.mlAct, first, read, serviceOf_of_le last, carried]

/-- Checks 1 to 9 passed (R113). -/
theorem State.purchaseRequest_judges {a : Byte} (names : a.toNat = n.val) {service : Nat} {e : LineupEntry} {sale : Sale}
    (occupied : s.room.occupancy = .occupied) (clock : s.clock.isSet = true) (entry : s.entry service = some e)
    (sold : s.saleOf e = some sale) (isOpen : sale.isOpen s.clock.count = true) (new : ∀ r ∈ s.rentals, r.service ≠ service)
    (terms : s.judgeTerms sale = none) (carried : Option Nat) :
    s.purchaseRequest a.toNat service carried = s.judgeSale n sale carried := by
  have unrented : s.rentalOf service = none := List.find?_eq_none.mpr fun r held => by simpa using new r held
  unfold State.purchaseRequest
  rw [screenOf_toNat names]
  dsimp only
  rw [if_neg (fun not => not occupied), if_neg (by simp [clock]), entry]
  dsimp only
  rw [sold]
  dsimp only
  rw [if_neg (by simp [isOpen]), unrented]
  dsimp only
  rw [terms]

/-- Check 10 after the PIN: under the lock a sale is let through by the PIN condition, which then grants an unlock, or by an unlock
held (R114). -/
theorem State.judgeLock_passes {e : LineupEntry} {right : Bool} (adult : e.adult = true → s.room.terms.adult = true)
    (passes : right = true ∨ s.locked n e.service (s.saleRating n e) e.adult = false) :
    s.judgeLock n e right = .ok (right && s.underLock n (s.saleRating n e) e.adult) := by
  unfold State.judgeLock
  rw [if_neg (fun both => both.2 (adult both.1))]
  by_cases under : s.underLock n (s.saleRating n e) e.adult = true
  · rw [if_neg (fun free => free under), under]
    cases right with
    | true => rfl
    | false =>
      have holds := passes.resolve_left Bool.false_ne_true
      rw [State.locked, under, Bool.true_and, Bool.not_eq_false'] at holds
      rw [if_neg Bool.false_ne_true, if_pos holds]
      rfl
  · rw [if_pos under, Bool.eq_false_iff.mpr under, Bool.and_false]

/-- A PIN that passes is right exactly where it is compared, or nothing is (R76). -/
theorem State.right_of_passes {carried : Option Nat} {required : Bool}
    (passes : s.PinMet carried ∨ (carried = none ∧ required = false)) :
    (s.lock.pin.isNone || carried.isSome) = decide (s.PinMet carried) := by
  by_cases met : s.PinMet carried
  · rw [decide_eq_true met]
    obtain none | ⟨-, same⟩ := met
    · simp [none]
    · rw [← same]
      cases s.lock.pin <;> rfl
  · obtain ⟨rfl, -⟩ := passes.resolve_left met
    rw [decide_eq_false met]
    cases pin : s.lock.pin with
    | none => exact absurd (.inl pin) met
    | some _ => rfl

/-- Checks 10 to 13 passed (R113, R114). -/
theorem State.judgeSale_sells {sale : Sale} {carried : Option Nat}
    (passes : s.PinMet carried ∨ (carried = none ∧ s.room.terms.pinOnPurchase = false ∧
      s.locked n sale.entry.service (s.saleRating n sale.entry) sale.entry.adult = false))
    (adult : sale.entry.adult = true → s.room.terms.adult = true) (money : s.judgeMoney (s.saleAmount sale) = none) :
    s.judgeSale n sale carried = ((s.pinJudged carried).acceptSale n sale
        (decide (s.PinMet carried) && s.underLock n (s.saleRating n sale.entry) sale.entry.adult), .ok,
      (s.pinJudged carried).saleBody sale) := by
  have pinPasses : s.PinMet carried ∨ (carried = none ∧ s.room.terms.pinOnPurchase = false) :=
    passes.imp_right fun ⟨absent, free, _⟩ => ⟨absent, free⟩
  obtain ⟨-, -, only⟩ := s.pinJudged_spec carried
  obtain ⟨lock, -, -⟩ := s.pinJudged_spec carried
  have lockPasses := State.judgeLock_passes (s := s) (n := n) (e := sale.entry) (right := decide (s.PinMet carried)) adult
    (passes.imp decide_eq_true fun ⟨_, _, free⟩ => free)
  unfold State.judgeSale
  rw [State.judgePin_passes pinPasses, State.right_of_passes pinPasses]
  dsimp only
  generalize s.pinJudged carried = p at *
  have same : p.judgeLock n sale.entry (decide (s.PinMet carried)) = s.judgeLock n sale.entry (decide (s.PinMet carried)) ∧
      p.judgeMoney (p.saleAmount sale) = s.judgeMoney (s.saleAmount sale) := by
    rw [only, lock]
    exact ⟨rfl, rfl⟩
  obtain ⟨lockSame, moneySame⟩ := same
  rw [lockSame, lockPasses]
  dsimp only
  rw [moneySame, money]

/-- A rise by what a cap leaves stays under the cap (R135, R138). -/
theorem billedRise_of_ok {room : RoomRecord} (ok : room.Ok) {base factor tax amount : Nat}
    (amountIs : amount = chargeAmount base factor tax room.terms.cap room.billed) :
    billedRise room.terms.cap room.billed amount = min (room.billed + amount) maxMoney := by
  obtain ⟨-, -, -, -, -, -, under, -⟩ := ok
  unfold billedRise
  split
  · rfl
  next capped =>
    have rest := chargeAmount_le_rest (cap := room.terms.cap) (billed := room.billed) capped base factor tax
    have within := under capped
    rw [← amountIs] at rest
    omega

/-- The sale of a FILM, or of an EVENT in its window (R113). -/
theorem State.saleOf_of_terms {e : LineupEntry} {code : Fin 32} {kind : RentalKind} {preview start stop : Nat}
    (given : (kind = .film ∧ e.terms = .film code preview ∧ stop = min (s.clock.count + (s.prices.get code).hours * 3600) 4294967295) ∨
      (kind = .event ∧ e.terms = .event code preview start stop ∧ start ≤ s.clock.count + 1800 ∧ s.clock.count < stop)) :
    ∃ sale, s.saleOf e = some sale ∧ sale.entry = e ∧ sale.kind = kind ∧ sale.price = s.prices.get code ∧
      sale.stop s.clock.count = stop ∧ sale.isOpen s.clock.count = true := by
  unfold State.saleOf
  obtain ⟨rfl, terms, rfl⟩ | ⟨rfl, terms, begun, running⟩ := given
  · rw [terms]
    exact ⟨_, rfl, rfl, rfl, rfl, rfl, rfl⟩
  · rw [terms]
    refine ⟨_, rfl, rfl, rfl, rfl, rfl, ?_⟩
    simpa [Sale.isOpen, running, saleLead] using begun

/-- A screen under lock that is tuned to the service bought is so by its own rating (R84, R114). -/
theorem State.underLock_of_tuned {e : LineupEntry} {met : Prop} [Decidable met] :
    ((decide met && s.underLock n (s.saleRating n e) e.adult) = true ∧ (s.lane n).tuned = some e.service) ↔
      (met ∧ (s.lane n).tuned = some e.service ∧
        ((ratingCompare (s.lane n).rating (s.ceiling n)).any = true ∨ (e.adult = true ∧ s.lock.pin.isSome = true))) := by
  by_cases tuned : (s.lane n).tuned = some e.service
  · simp [State.underLock, State.saleRating, tuned]
  · simp [tuned]

/-- Checks 7 to 9 passed (R113). -/
theorem State.judgeTerms_passes {sale : Sale} (loaded : sale.price.loaded = true)
    (free : ∀ x ∈ s.charges.entries.head?, x.state ≠ .declined)
    (rate : (s.room.history.filter (fun t => decide (s.clock.count < t + s.room.terms.rateWindow))).length < s.room.terms.rateCount) :
    s.judgeTerms sale = none := by
  have held : s.held = false := by
    rw [s.held_eq]
    cases head : s.charges.entries.head? with
    | none => rfl
    | some x => simpa using free x head
  unfold State.judgeTerms
  rw [if_neg (fun unpriced => unpriced loaded), held, if_neg Bool.false_ne_true]
  exact if_neg (Nat.not_le.mpr rate)

/-- Checks 11 to 13 passed (R113, R137). -/
theorem State.judgeMoney_passes {amount : Nat}
    (money : 0 < amount → s.charges.entries.length < 8 ∧ s.room.spend + amount ≤ s.room.terms.spendLimit)
    (place : s.rentals.length < 8) : s.judgeMoney amount = none := by
  unfold State.judgeMoney
  rw [if_neg fun both => (money both.1).1.not_ge both.2, if_neg fun both => (money both.1).2.not_gt both.2]
  exact if_neg (Nat.not_le.mpr place)

/-- Settles O53: the checks passed, the booking and the unlock, and admissions that write nothing of the room. -/
theorem aPurchaseIsAccepted : Obligations.APurchaseIsAccepted := by
  intro s tag a n service amount pin e code kind preview start stop i ready names last two occupied clock entry given new loaded
    free rate passes adult amountIs money place index lowest
  obtain ⟨sale, sold, rfl, kindIs, price, stopIs, isOpen⟩ := State.saleOf_of_terms given
  obtain rfl : sale.entry.service = service := State.service_of_entry entry
  have terms : s.judgeTerms sale = none := State.judgeTerms_passes (price ▸ loaded) free rate
  have amt : s.saleAmount sale = amount := by rw [State.saleAmount, price, amountIs]
  have passed : s.judgeMoney (s.saleAmount sale) = none := amt ▸ State.judgeMoney_passes money place
  have acts : (s.setTx .idle).mlAct .purchase (a :: beBytes 2 sale.entry.service ++ pin) = _ :=
    (State.mlAct_purchase last pin).trans ((State.purchaseRequest_judges (s := s.setTx .idle) names occupied clock entry sold isOpen
      new terms _).trans (State.judgeSale_sells (s := s.setTx .idle) passes adult passed))
  obtain ⟨done, replied⟩ := exec_request_of_ready (k := .purchase) ready tag ((State.judgeRequest_of_length
    (by rcases two with rfl | two <;> simp [MlKind.bodyLengths, *])).trans acts)
  refine ⟨_, done, ?_⟩
  obtain ⟨pinLock, pinNotices, -⟩ := (s.setTx .idle).pinJudged_spec (carriedPin pin 0)
  obtain ⟨charges, room, rentals, lanes, clocks, number, freeIndex, amounts, lineup, prices, line⟩ :=
    s.pinJudged_blocks (carriedPin pin 0) rfl
  have unlocked := State.underLock_of_tuned (s := s) (n := n) (e := sale.entry) (met := s.PinMet (carriedPin pin 0))
  rw [show (decide ((s.setTx .idle).PinMet (carriedPin pin 0)) && (s.setTx .idle).underLock n ((s.setTx .idle).saleRating n sale.entry)
    sale.entry.adult) = (decide (s.PinMet (carriedPin pin 0)) && s.underLock n (s.saleRating n sale.entry) sale.entry.adult) from rfl]
    at replied ⊢
  generalize (decide (s.PinMet (carriedPin pin 0)) && s.underLock n (s.saleRating n sale.entry) sale.entry.adult) = grant at *
  clear acts done
  generalize (s.setTx .idle).pinJudged (carriedPin pin 0) = p at *
  have lowestIs : p.freeIndex = i := freeIndex.trans (State.freeIndex_eq index lowest)
  have capped : p.saleCapped sale = decide (amount <
      grossPrice (s.prices.get code).base s.room.terms.rateFactor s.room.terms.tax) := by
    rw [State.saleCapped, cappedMark, room, price, ← amountIs]
  have pAmount : p.saleAmount sale = amount := (amounts sale).trans amt
  have made : p.newRental sale (if 0 < p.saleAmount sale then some p.nextNumber else none) =
      { index := i, service := sale.entry.service, kind := kind, session := s.room.session,
        charge := if 0 < amount then some s.nextNumber else none, amount := amount,
        capped := decide (amount < grossPrice (s.prices.get code).base s.room.terms.rateFactor s.room.terms.tax),
        waived := false, start := s.clock.count, stop := stop, allowance := (s.prices.get code).allowance,
        grace := (s.prices.get code).grace, viewed := 0, seats := [], waiting := [] } := by
    unfold State.newRental
    rw [lowestIs, kindIs, room, pAmount, number, capped, clocks, stopIs, price]
  obtain ⟨view, roomNow, settings, unseated⟩ := State.acceptSale_spec (s := p) (sale := sale) (by rwa [rentals]) n grant
  obtain ⟨lockNow, unlocks⟩ := p.lock_granted n sale grant
  have queue := p.acceptSale_charges n sale grant
  have body : p.saleBody sale = .purchase i amount
      (decide (amount < grossPrice (s.prices.get code).base s.room.terms.rateFactor s.room.terms.tax))
      (if 0 < amount then some s.nextNumber else none) stop := by
    rw [State.saleBody, made]
    rfl
  obtain ⟨bookedRoom, bookedLink, bookedClock, bookedLineup, bookedPrices, bookedLine⟩ := p.granted_blocks n sale grant
  rw [pAmount, room, clocks] at bookedRoom
  rw [clocks] at bookedClock
  rw [lineup] at bookedLineup
  rw [prices] at bookedPrices
  rw [line] at bookedLine
  rw [made] at unseated
  rw [rentals] at unseated
  rw [lanes] at settings unlocks
  obtain ⟨lock, -, line', -, notices⟩ := view.stands
  obtain ⟨-, -, clock', lineup', prices', -⟩ := view.frame
  have unlocksNow (m : Screen) : (p.acceptSale n sale grant).unlockOf m = (p.granted n sale grant).unlockOf m := by
    rw [State.unlockOf, lock]
    rfl
  clear made view
  rw [body] at replied
  rw [body]
  rw [roomNow.symm] at bookedRoom
  generalize p.acceptSale n sale grant = z at *
  generalize p.granted n sale grant = g at *
  have noticed : OnlyNotices (s.setTx .idle) z := by
    have step : OnlyNotices p z := by
      rw [OnlyNotices, bookedLink] at notices
      exact notices
    exact pinNotices.trans step
  refine ⟨noticed.linkFrame _, unseated, ?_, ?_, fun ok => ?_, ?_, replied, ?_, fun m => ?_, settings, clock'.trans bookedClock,
    lineup'.trans bookedLineup, prices'.trans bookedPrices, line'.trans bookedLine⟩
  · refine queue.trans ?_
    rw [pAmount]
    split
    · show (⟨p.charges.entries ++ [⟨.charge, p.nextNumber, p.room.session, sale.entry.service, amount, p.room.terms.tax, p.clock.count,
        .waiting⟩], succNumber p.nextNumber⟩ : ChargeQueue) = _
      rw [charges, number, room, clocks]
      rfl
    · exact charges
  · show z.room = { s.room with
      spend := z.room.spend, billed := z.room.billed
      history := s.room.history.drop (s.room.history.length - 7) ++ [s.clock.count], previewUsed := z.room.previewUsed }
    rw [bookedRoom]
    rfl
  · show z.room.spend = _ ∧ z.room.billed = _
    rw [bookedRoom]
    exact ⟨rfl, billedRise_of_ok ok amountIs⟩
  · show sale.entry.service ∈ z.room.previewUsed
    rw [bookedRoom]
    exact mem_addUsed ..
  · show z.lock = { s.lock with
      failures := if s.PinMet (carriedPin pin 0) then s.failuresMet else s.lock.failures, unlocks := z.lock.unlocks }
    rw [lock, lockNow, pinLock]
    rfl
  · refine (unlocksNow m).trans ((unlocks m).trans (if_congr (and_congr_right fun _ => unlocked) ?_ ?_))
    · rw [clocks, room]
    · rw [State.unlockOf, pinLock]
      rfl

end Sys2Proof.Machine
end

section
/-! SUPPORT. Purchases and cancels refused: what the PIN record takes, and which check refuses (R74, R113, R125). -/

namespace Sys2Proof.Machine

variable {s t u : State} {n m : Screen}

/-! ### What a PIN attempt writes -/

/-- The PIN record's counts and a PIN notice, and nothing else. -/
structure PinWrites (s t : State) : Prop where
  only : t = { s with
    link := t.link
    lock := { s.lock with failures := t.lock.failures, lockout := t.lock.lockout, lockoutEnd := t.lock.lockoutEnd } }
  notices : OnlyNotices s t

theorem PinWrites.refl (s : State) : PinWrites s s := ⟨rfl, rfl⟩

theorem State.pinRight_writes (s : State) : PinWrites s s.pinRight := by
  obtain ⟨lock, notices, only⟩ := s.pinRight_spec
  refine ⟨?_, notices⟩
  generalize s.pinRight = t at *
  rw [only]
  dsimp only
  rw [lock]

theorem State.wrongPin_writes (s : State) : PinWrites s s.wrongPin := by
  unfold State.wrongPin
  split <;> exact ⟨rfl, rfl⟩

/-- What the judgement of a PIN writes, by its result (R74, R76). -/
structure PinOutcome (s t : State) (refusal : Option Result) : Prop where
  writes : PinWrites s t
  kinds : refusal ∈ [none, some .pinWrong, some .pinRequired, some .pinLocked]
  lockout : refusal ≠ some .pinWrong → t.lock.lockout = s.lock.lockout ∧ t.lock.lockoutEnd = s.lock.lockoutEnd ∧
    (s.lock.pin = none → t.lock = s.lock)
  missing : refusal = some .pinRequired ∨ refusal = some .pinLocked → t = s

theorem State.judgePin_outcome {required : Bool} {carried : Option Nat} {refusal : Option Result}
    (judged : s.judgePin required carried = (t, refusal)) : PinOutcome s t refusal := by
  have unchanged (kinds : refusal ∈ [none, some .pinWrong, some .pinRequired, some .pinLocked]) (same : s = t) :
      PinOutcome s t refusal := by
    subst same
    exact ⟨.refl s, kinds, fun _ => ⟨rfl, rfl, fun _ => rfl⟩, fun _ => rfl⟩
  cases set : s.lock.pin with
  | none =>
    rw [State.judgePin, set] at judged
    obtain ⟨same, rfl⟩ := Prod.mk.inj judged
    exact unchanged (by simp) same
  | some pin =>
    cases carried with
    | none =>
      rw [State.judgePin_missing set] at judged
      obtain ⟨same, rfl⟩ := Prod.mk.inj judged
      exact unchanged (by cases required <;> simp) same
    | some c =>
      by_cases locked : s.lock.lockout = true
      · rw [State.judgePin_lockedOut set locked] at judged
        obtain ⟨same, rfl⟩ := Prod.mk.inj judged
        exact unchanged (by simp) same
      · have free := Bool.eq_false_iff.mpr locked
        by_cases right : c = pin
        · rw [State.judgePin_of_met (.inr ⟨free, by rw [set, right]⟩)] at judged
          obtain ⟨rfl, rfl⟩ := Prod.mk.inj judged
          obtain ⟨lock, -, -⟩ := s.pinRight_spec
          exact ⟨s.pinRight_writes, by simp, fun _ => by
            rw [lock]
            exact ⟨rfl, rfl, fun none => absurd (none.symm.trans set) nofun⟩, nofun⟩
        · rw [State.judgePin_wrong set free right] at judged
          obtain ⟨rfl, rfl⟩ := Prod.mk.inj judged
          exact ⟨s.wrongPin_writes, by simp, fun differs => absurd rfl differs, nofun⟩

/-! ### A refusal -/

/-- A request refused: at once, by its PIN, or by one of the checks behind the PIN (R113, R125). -/
inductive Refuses (s : State) (late : List Result) : State × Answer → Prop
  | atOnce {result : Result} {reply : ReplyBody} (bare : result ≠ .already → reply = .none) : Refuses s late (s, result, reply)
  | pin {v : State} {required : Bool} {carried : Option Nat} {refusal : Result}
    (judged : s.judgePin required carried = (v, some refusal)) : Refuses s late (v, refusal, .none)
  | behind {v : State} {required : Bool} {carried : Option Nat} {refusal : Result}
    (judged : s.judgePin required carried = (v, none)) (among : refusal ∈ late) : Refuses s late (v, refusal, .none)

/-- The results of the checks behind the PIN (R113 checks 10 to 13, R125 checks 3 to 5). -/
def lateResults : MlKind → List Result
  | .purchase => [.adultBarred, .contentLocked, .creditFull, .spendLimit, .rentalsFull]
  | .cancelRental => [.cancelTooLate, .billingHeld, .queueFull]
  | _ => []

theorem State.judgeLock_late {e : LineupEntry} {right : Bool} {refusal : Result} (refused : s.judgeLock n e right = .error refusal) :
    refusal ∈ lateResults .purchase := by
  unfold State.judgeLock at refused
  split at refused
  · cases refused
    decide
  · split at refused
    · cases refused
    · split at refused
      · cases refused
      · split at refused
        · cases refused
        · cases refused
          decide

theorem State.judgeMoney_late {amount : Nat} {refusal : Result} (refused : s.judgeMoney amount = some refusal) :
    refusal ∈ lateResults .purchase := by
  unfold State.judgeMoney at refused
  split at refused
  · cases refused
    decide
  · split at refused
    · cases refused
      decide
    · split at refused
      · cases refused
        decide
      · cases refused

theorem State.judgeCancel_late {r : Rental} {refusal : Result} (refused : s.judgeCancel r = some refusal) :
    refusal ∈ lateResults .cancelRental := by
  unfold State.judgeCancel at refused
  split at refused
  · cases refused
    decide
  · split at refused
    · cases refused
      decide
    · split at refused
      · split at refused
        · cases refused
          decide
        · cases refused
      · cases refused

theorem State.judgeSale_refusal (s : State) (n : Screen) (sale : Sale) (carried : Option Nat) :
    (s.judgeSale n sale carried).2.1 = .ok ∨ Refuses s (lateResults .purchase) (s.judgeSale n sale carried) := by
  unfold State.judgeSale
  split
  next judged => exact .inr (.pin judged)
  next judged =>
    split
    next refused => exact .inr (.behind judged (State.judgeLock_late refused))
    · split
      next refused => exact .inr (.behind judged (State.judgeMoney_late refused))
      · exact .inl rfl

theorem State.purchaseRequest_refusal (s : State) (screen service : Nat) (carried : Option Nat) :
    (s.purchaseRequest screen service carried).2.1 = .ok ∨
      Refuses s (lateResults .purchase) (s.purchaseRequest screen service carried) := by
  have bare {result : Result} : Refuses s (lateResults .purchase) (s, result, .none) := .atOnce fun _ => rfl
  unfold State.purchaseRequest
  split
  · exact .inr bare
  · split
    · exact .inr bare
    · split
      · exact .inr bare
      · split
        · exact .inr bare
        · split
          · exact .inr bare
          · split
            · exact .inr bare
            · split
              · exact .inr (.atOnce fun differs => absurd rfl differs)
              · split
                · exact .inr bare
                · exact s.judgeSale_refusal ..

theorem State.cancelRequest_refusal (s : State) (index : Nat) (carried : Option Nat) :
    (s.cancelRequest index carried).2.1 = .ok ∨ Refuses s (lateResults .cancelRental) (s.cancelRequest index carried) := by
  unfold State.cancelRequest
  split
  · exact .inr (.atOnce fun _ => rfl)
  · split
    · exact .inr (.atOnce fun _ => rfl)
    · split
      next judged => exact .inr (.pin judged)
      next judged =>
        split
        next refused => exact .inr (.behind judged (State.judgeCancel_late refused))
        · exact .inl rfl

theorem State.judgeRequest_refusal (s : State) {k : MlKind} (sells : k = .purchase ∨ k = .cancelRental) (body : List Byte) :
    (s.judgeRequest k body).2.1 = .ok ∨ Refuses s (lateResults k) (s.judgeRequest k body) := by
  unfold State.judgeRequest
  split
  · obtain rfl | rfl := sells
    · exact s.purchaseRequest_refusal ..
    · exact s.cancelRequest_refusal ..
  · exact .inr (.atOnce fun _ => rfl)

/-- The results at which a refused purchase or cancel changes nothing at all (R74, R76, R113, R125). -/
abbrev quietResults : List Result :=
  [.already, .badLength, .badScreen, .notOccupied, .clockUnset, .unknownService, .notForSale, .outsideWindow,
    .priceUnknown, .rateLimit, .noRental, .pinRequired, .pinLocked]

/-- A refused purchase or cancel changes the PIN record alone (R74, R113, R125). -/
theorem Refuses.changes {k : MlKind} (sells : k = .purchase ∨ k = .cancelRental) {result : Result} {reply : ReplyBody}
    (refused : Refuses s (lateResults k) (u, result, reply)) :
    PinWrites s u ∧ (result ≠ .already → reply = .none) ∧
      (result ≠ .pinWrong → u.lock.lockout = s.lock.lockout ∧ u.lock.lockoutEnd = s.lock.lockoutEnd ∧
        (s.lock.pin = none → u.lock = s.lock)) ∧
      (result ∈ quietResults ∨ (k = .purchase ∧ result = .billingHeld) → u = s) := by
  cases refused with
  | atOnce bare => exact ⟨.refl s, bare, fun _ => ⟨rfl, rfl, fun _ => rfl⟩, fun _ => rfl⟩
  | pin judged =>
    obtain ⟨writes, kinds, lockout, missing⟩ := State.judgePin_outcome judged
    refine ⟨writes, fun _ => rfl, fun right => lockout fun wrong => right (Option.some.inj wrong), fun quiet => missing ?_⟩
    simp only [List.mem_cons, List.not_mem_nil, or_false] at kinds
    rcases kinds with none | wrong | required | locked
    · cases none
    · obtain rfl := Option.some.inj wrong
      simp at quiet
    · exact .inl required
    · exact .inr locked
  | behind judged among =>
    obtain ⟨writes, -, lockout, -⟩ := State.judgePin_outcome judged
    refine ⟨writes, fun _ => rfl, fun _ => lockout nofun, fun quiet => ?_⟩
    obtain rfl | rfl := sells
    · simp only [lateResults, List.mem_cons, List.not_mem_nil, or_false] at among
      rcases among with rfl | rfl | rfl | rfl | rfl <;> simp at quiet
    · simp only [lateResults, List.mem_cons, List.not_mem_nil, or_false] at among
      rcases among with rfl | rfl | rfl <;> simp at quiet

/-- The same of the request's row (R185, R186). -/
theorem refusal_of_request {k : MlKind} {tag : Byte} {body : List Byte} {result : Result} {reply : ReplyBody} (ready : s.Ready)
    (sells : k = .purchase ∨ k = .cancelRental) (done : exec (k.request tag body) s = .next t)
    (sent : t.link.tx = .sending ⟨k.code, tag, result, reply⟩) (refused : result ≠ .ok) :
    t = { s with
      link := t.link
      lock := { s.lock with failures := t.lock.failures, lockout := t.lock.lockout, lockoutEnd := t.lock.lockoutEnd } } ∧
    LinkFrame s t ∧ (result ≠ .already → reply = .none) ∧
    (result ≠ .pinWrong → t.lock.lockout = s.lock.lockout ∧ t.lock.lockoutEnd = s.lock.lockoutEnd ∧
      (s.lock.pin = none → t.lock = s.lock)) ∧
    (result ∈ quietResults ∨ (k = .purchase ∧ result = .billingHeld) → OnlyReplied s t ⟨k.code, tag, body⟩ result reply) := by
  obtain ⟨u, answer, judged⟩ : ∃ u answer, (s.setTx .idle).judgeRequest k body = (u, answer) := ⟨_, _, rfl⟩
  obtain ⟨result', reply'⟩ := answer
  obtain ⟨done', replied⟩ := exec_request_of_ready ready tag judged
  obtain rfl := Host.Outcome.next.inj (done'.symm.trans done)
  obtain ⟨rfl, rfl⟩ : result' = result ∧ reply' = reply := by
    have same : MlTx.sending ⟨k.code, tag, result', reply'⟩ = .sending ⟨k.code, tag, result, reply⟩ := sent
    obtain ⟨-, -, results, replies⟩ := MlReply.mk.inj (MlTx.sending.inj same)
    exact ⟨results, replies⟩
  have refusal := (s.setTx .idle).judgeRequest_refusal sells body
  rw [judged] at refusal
  obtain ⟨⟨only, notices⟩, bare, lockout, quiet⟩ := (refusal.resolve_left refused).changes sells
  refine ⟨?_, notices.linkFrame _, bare, lockout, fun nothing => ⟨replied, ?_⟩⟩
  · exact congrArg (fun x : State => x.send ⟨k.code, tag, result', reply'⟩) only
  · rw [quiet nothing]
    rfl

end Sys2Proof.Machine
end

section
/-! PROOFS. The first failing check of a PURCHASE and of a CANCEL_RENTAL (R113, R114, R125). -/

namespace Sys2Proof.Machine

variable {s t u : State} {n m : Screen}

/-! ### The PIN and the lock -/

/-- The result of a PIN, by the first of its conditions (R74, R76). -/
theorem State.judgePin_result (s : State) (required : Bool) (carried : Option Nat) : (s.judgePin required carried).2 =
    if s.lock.pin.isSome = true ∧ carried.isSome = true ∧ s.lock.lockout = true then some .pinLocked
    else if s.lock.pin.isSome = true ∧ carried.isSome = true ∧ carried ≠ s.lock.pin then some .pinWrong
    else if s.lock.pin.isSome = true ∧ carried = none ∧ required = true then some .pinRequired
    else none := by
  cases set : s.lock.pin with
  | none => simp [State.judgePin, set]
  | some pin =>
    cases carried with
    | none => simp [State.judgePin_missing set]
    | some c =>
      by_cases locked : s.lock.lockout = true
      · simp [State.judgePin_lockedOut set locked, locked]
      · have free := Bool.eq_false_iff.mpr locked
        by_cases right : c = pin
        · subst right
          simp [State.judgePin_of_met (s := s) (carried := some c) (.inr ⟨free, set⟩), free]
        · simp [State.judgePin_wrong set free right, free, right]

/-- Steps 2 and 3 of check 10, by the first that fails (R114). -/
theorem State.judgeLock_eq (s : State) (n : Screen) (e : LineupEntry) (right : Bool) : s.judgeLock n e right =
    if e.adult = true ∧ s.room.terms.adult = false then .error .adultBarred
    else if s.underLock n (s.saleRating n e) e.adult = true ∧ right = false ∧ s.holdsUnlock n e.service = false then
      .error .contentLocked
    else .ok (right && s.underLock n (s.saleRating n e) e.adult) := by
  unfold State.judgeLock
  by_cases adult : e.adult = true ∧ s.room.terms.adult = false
  · rw [if_pos adult, if_pos ⟨adult.1, Bool.eq_false_iff.mp adult.2⟩]
  · rw [if_neg adult, if_neg fun both => adult ⟨both.1, Bool.eq_false_iff.mpr both.2⟩]
    cases s.underLock n (s.saleRating n e) e.adult with
    | false => simp
    | true =>
      cases right with
      | true => rfl
      | false => cases s.holdsUnlock n e.service <;> rfl

/-- What a purchase is judged by behind its PIN, the PIN's writes leave (R114). -/
theorem PinWrites.judges (h : PinWrites s t) (n : Screen) (sale : Sale) (right : Bool) :
    t.judgeLock n sale.entry right = s.judgeLock n sale.entry right ∧
      t.judgeMoney (t.saleAmount sale) = s.judgeMoney (s.saleAmount sale) := by
  rw [h.only]
  exact ⟨rfl, rfl⟩

theorem PinWrites.judgeCancel (h : PinWrites s t) (r : Rental) : t.judgeCancel r = s.judgeCancel r := by
  rw [h.only]
  rfl

/-! ### A purchase behind its terms -/

/-- The screen is under lock, holds no unlock for the service and has not met the PIN condition (R114 step 3). -/
theorem State.contentLocked_iff {e : LineupEntry} {carried : Option Nat} :
    (s.underLock n (s.saleRating n e) e.adult = true ∧ (s.lock.pin.isNone || carried.isSome) = false ∧
        s.holdsUnlock n e.service = false) ↔
      (((ratingCompare (if (s.lane n).tuned = some e.service then (s.lane n).rating else e.rating) (s.ceiling n)).any = true ∨
          (e.adult = true ∧ s.lock.pin.isSome = true)) ∧
        (∀ u ∈ s.unlockOf n, u.service ≠ e.service) ∧ s.lock.pin.isSome = true ∧ carried = none) := by
  have holds : s.holdsUnlock n e.service = false ↔ ∀ u ∈ s.unlockOf n, u.service ≠ e.service := by
    unfold State.holdsUnlock
    cases s.unlockOf n <;> simp
  rw [holds]
  simp only [State.underLock, State.saleRating, Bool.or_eq_true, Bool.and_eq_true, Bool.or_eq_false_iff,
    Option.isNone_eq_false_iff, Option.isSome_eq_false_iff, Option.isNone_iff_eq_none]
  tauto

/-- Checks 10 to 13 of a purchase give the result of the first that fails (R113, R114). -/
theorem State.judgeSale_result {sale : Sale} {carried : Option Nat} {result : Result}
    (judged : (s.judgeSale n sale carried).2.1 = result) (price : sale.price = s.priceNamed sale.entry) :
    if s.lock.pin.isSome = true ∧ carried.isSome = true ∧ s.lock.lockout = true then result = .pinLocked
    else if s.lock.pin.isSome = true ∧ carried.isSome = true ∧ carried ≠ s.lock.pin then result = .pinWrong
    else if s.lock.pin.isSome = true ∧ carried = none ∧ s.room.terms.pinOnPurchase = true then result = .pinRequired
    else if sale.entry.adult = true ∧ s.room.terms.adult = false then result = .adultBarred
    else if ((ratingCompare (if (s.lane n).tuned = some sale.entry.service then (s.lane n).rating else sale.entry.rating)
          (s.ceiling n)).any = true ∨ (sale.entry.adult = true ∧ s.lock.pin.isSome = true)) ∧
        (∀ u ∈ s.unlockOf n, u.service ≠ sale.entry.service) ∧ s.lock.pin.isSome = true ∧ carried = none then
      result = .contentLocked
    else
      (∀ amount, amount = chargeAmount (s.priceNamed sale.entry).base s.room.terms.rateFactor s.room.terms.tax
          s.room.terms.cap s.room.billed →
        result = if 0 < amount ∧ 8 ≤ s.charges.entries.length then .creditFull
          else if 0 < amount ∧ s.room.terms.spendLimit < s.room.spend + amount then .spendLimit
          else if 8 ≤ s.rentals.length then .rentalsFull
          else .ok) := by
  have pin := s.judgePin_result s.room.terms.pinOnPurchase carried
  obtain ⟨v, refusal, attempt⟩ : ∃ v refusal, s.judgePin s.room.terms.pinOnPurchase carried = (v, refusal) := ⟨_, _, rfl⟩
  have outcome := State.judgePin_outcome attempt
  rw [attempt] at pin
  dsimp only at pin
  unfold State.judgeSale at judged
  rw [attempt] at judged
  refine ite_prop_iff_and.mpr ⟨fun locked => ?_, fun free => ite_prop_iff_and.mpr ⟨fun wrong => ?_, fun right =>
    ite_prop_iff_and.mpr ⟨fun missing => ?_, fun present => ?_⟩⟩⟩
  · rw [if_pos locked] at pin
    subst pin
    exact judged.symm
  · rw [if_neg free, if_pos wrong] at pin
    subst pin
    exact judged.symm
  · rw [if_neg free, if_neg right, if_pos missing] at pin
    subst pin
    exact judged.symm
  · rw [if_neg free, if_neg right, if_neg present] at pin
    subst pin
    dsimp only at judged
    obtain ⟨lock, money⟩ := outcome.writes.judges n sale (s.lock.pin.isNone || carried.isSome)
    rw [lock, s.judgeLock_eq] at judged
    rw [if_congr State.contentLocked_iff rfl rfl] at judged
    refine ite_prop_iff_and.mpr ⟨fun adult => ?_, fun permitted => ite_prop_iff_and.mpr ⟨fun barred => ?_, fun passes => ?_⟩⟩
    · rw [if_pos adult] at judged
      exact judged.symm
    · rw [if_neg permitted, if_pos barred] at judged
      exact judged.symm
    · rw [if_neg permitted, if_neg passes] at judged
      dsimp only at judged
      rintro amount rfl
      rw [money, State.saleAmount, price] at judged
      unfold State.judgeMoney State.queueLength at judged
      split
      next full =>
        rw [if_pos full] at judged
        exact judged.symm
      next place =>
        rw [if_neg place] at judged
        split
        next spent =>
          rw [if_pos spent] at judged
          exact judged.symm
        next credit =>
          rw [if_neg credit] at judged
          split
          next many =>
            rw [if_pos many] at judged
            exact judged.symm
          next few =>
            rw [if_neg few] at judged
            exact judged.symm

/-! ### A purchase, a cancel -/

/-- A service for sale is a FILM or an EVENT, at the price its code names (R113 check 4). -/
theorem State.saleOf_iff {e : LineupEntry} :
    (s.saleOf e = none ↔ e.terms.code = 0 ∨ e.terms.code = 1) ∧
      ∀ sale, s.saleOf e = some sale → sale.price = s.priceNamed e ∧ sale.window = e.terms.window := by
  unfold State.saleOf State.priceNamed
  cases e.terms with
  | free | package number => exact ⟨by simp [Terms.code], nofun⟩
  | film code preview =>
    refine ⟨by simp [Terms.code], ?_⟩
    rintro _ ⟨⟩
    exact ⟨rfl, rfl⟩
  | event code preview start stop =>
    refine ⟨by simp [Terms.code], ?_⟩
    rintro _ ⟨⟩
    exact ⟨rfl, rfl⟩

theorem Sale.isOpen_eq_false {sale : Sale} {clock : Nat} :
    ¬ sale.isOpen clock = true ↔ ∃ w ∈ sale.window, clock + 1800 < w.1 ∨ w.2 ≤ clock := by
  unfold Sale.isOpen
  cases sale.window with
  | none => simp
  | some w =>
    have lead : saleLead = 1800 := rfl
    simp only [Bool.and_eq_true, decide_eq_true_eq, not_and_or, Option.mem_def, Option.some.injEq, exists_eq_left', Nat.not_le,
      Nat.not_lt, lead]
    omega

/-- Checks 7 to 9 of a purchase (R113). -/
theorem State.judgeTerms_eq (s : State) (sale : Sale) : s.judgeTerms sale =
    if sale.price.loaded = false then some .priceUnknown
    else if ∃ x ∈ s.charges.entries.head?, x.state = .declined then some .billingHeld
    else if s.room.terms.rateCount ≤
        (s.room.history.filter (fun x => decide (s.clock.count < x + s.room.terms.rateWindow))).length then some .rateLimit
    else none := by
  have held : s.held = true ↔ ∃ x ∈ s.charges.entries.head?, x.state = .declined := by
    rw [s.held_eq]
    cases s.charges.entries.head? <;> simp
  unfold State.judgeTerms State.recentCount
  exact if_congr (by simp) rfl (if_congr held rfl rfl)

theorem State.rentalOf_iff {service : Nat} : (∃ r, s.rentalOf service = some r) ↔ ∃ r ∈ s.rentals, r.service = service := by
  rw [← Option.isSome_iff_exists]
  exact List.find?_isSome.trans (by simp)

/-- The checks of a cancel (R125 checks 3 to 5). -/
theorem State.judgeCancel_eq (numbers : (s.charges.entries.map (·.number)).Nodup) (r : Rental) : s.judgeCancel r =
    if r.grace ≤ r.viewed / 60 then some .cancelTooLate
    else if ∃ x ∈ s.charges.entries, r.charge = some x.number ∧ x.state = .declined then some .billingHeld
    else if r.charge.isSome = true ∧ r.waived = false ∧
        (∀ x ∈ s.charges.entries, r.charge = some x.number → x.state ≠ .waiting) ∧ 12 ≤ s.charges.entries.length then
      some .queueFull
    else none := by
  have declined : s.chargeDeclined r = true ↔ ∃ x ∈ s.charges.entries, r.charge = some x.number ∧ x.state = .declined := by
    simp [State.chargeDeclined]
  unfold State.judgeCancel
  refine if_congr Iff.rfl rfl (if_congr declined rfl ?_)
  by_cases nothing : r.charge = none ∨ r.waived = true
  · rw [State.cancelCase_of_nothing nothing]
    refine (if_neg ?_).symm
    rintro ⟨charged, money, -⟩
    obtain none | waived := nothing
    · rw [none] at charged
      cases charged
    · cases money.symm.trans waived
  · obtain ⟨charged, waived⟩ := not_or.mp nothing
    obtain ⟨number, own⟩ := Option.ne_none_iff_exists'.mp charged
    have money := Bool.eq_false_iff.mpr waived
    have waits : ((s.entryOf number).any fun e => e.state == .waiting) = true ↔
        ∃ x ∈ s.charges.entries, r.charge = some x.number ∧ x.state = .waiting := by
      rw [own]
      constructor
      · intro found
        obtain ⟨x, at_, waiting⟩ := (Option.any_eq_true _ _).mp found
        have same : x.number = number := beq_iff_eq.mp (List.find?_some (p := fun y : QueueEntry => y.number == number) at_)
        exact ⟨x, List.mem_of_find?_eq_some at_, by rw [same], by simpa using waiting⟩
      · rintro ⟨x, held, same, waiting⟩
        rw [Option.some.inj same, State.entryOf_of_mem numbers held, Option.any_some, waiting]
        rfl
    rw [State.cancelCase_of_charge own money]
    by_cases waiting : ∃ x ∈ s.charges.entries, r.charge = some x.number ∧ x.state = .waiting
    · rw [if_pos (waits.mpr waiting)]
      refine (if_neg ?_).symm
      rintro ⟨-, -, never, -⟩
      obtain ⟨x, held, same, is⟩ := waiting
      exact never x held same is
    · rw [if_neg (fun found => waiting (waits.mp found))]
      refine if_congr ⟨fun full => ⟨by simp [own], money, fun x held same is => waiting ⟨x, held, same, is⟩, full⟩, fun h => h.2.2.2⟩
        rfl rfl

/-- The checks of a purchase of a service of the line-up, from check 4 on (R113). -/
theorem State.purchaseRequest_result {a : Byte} (names : a.toNat = n.val) {e : LineupEntry} {carried : Option Nat} {result : Result}
    (occupied : s.room.occupancy = .occupied) (clock : s.clock.isSet = true) (entry : s.entry e.service = some e)
    (answer : (s.purchaseRequest a.toNat e.service carried).2.1 = result) :
    if e.terms.code = 0 ∨ e.terms.code = 1 then result = .notForSale
    else if ∃ w ∈ e.terms.window, s.clock.count + 1800 < w.1 ∨ w.2 ≤ s.clock.count then result = .outsideWindow
    else if ∃ r ∈ s.rentals, r.service = e.service then result = .already
    else if (s.priceNamed e).loaded = false then result = .priceUnknown
    else if ∃ x ∈ s.charges.entries.head?, x.state = .declined then result = .billingHeld
    else if s.room.terms.rateCount ≤
        (s.room.history.filter (fun x => decide (s.clock.count < x + s.room.terms.rateWindow))).length then
      result = .rateLimit
    else if s.lock.pin.isSome = true ∧ carried.isSome = true ∧ s.lock.lockout = true then result = .pinLocked
    else if s.lock.pin.isSome = true ∧ carried.isSome = true ∧ carried ≠ s.lock.pin then result = .pinWrong
    else if s.lock.pin.isSome = true ∧ carried = none ∧ s.room.terms.pinOnPurchase = true then result = .pinRequired
    else if e.adult = true ∧ s.room.terms.adult = false then result = .adultBarred
    else if ((ratingCompare (if (s.lane n).tuned = some e.service then (s.lane n).rating else e.rating) (s.ceiling n)).any = true ∨
          (e.adult = true ∧ s.lock.pin.isSome = true)) ∧
        (∀ u ∈ s.unlockOf n, u.service ≠ e.service) ∧ s.lock.pin.isSome = true ∧ carried = none then
      result = .contentLocked
    else
      (∀ amount, amount = chargeAmount (s.priceNamed e).base s.room.terms.rateFactor s.room.terms.tax
          s.room.terms.cap s.room.billed →
        result = if 0 < amount ∧ 8 ≤ s.charges.entries.length then .creditFull
          else if 0 < amount ∧ s.room.terms.spendLimit < s.room.spend + amount then .spendLimit
          else if 8 ≤ s.rentals.length then .rentalsFull
          else .ok) := by
  unfold State.purchaseRequest at answer
  rw [screenOf_toNat names] at answer
  dsimp only at answer
  rw [if_neg (fun not => not occupied), if_neg (fun unset => unset clock), entry] at answer
  dsimp only at answer
  obtain ⟨unsold, sold⟩ := State.saleOf_iff (s := s) (e := e)
  refine ite_prop_iff_and.mpr ⟨fun gratis => ?_, fun forSale => ?_⟩
  · rw [unsold.mpr gratis] at answer
    exact answer.symm
  · obtain ⟨sale, made⟩ := Option.ne_none_iff_exists'.mp fun none => forSale (unsold.mp none)
    obtain ⟨price, window⟩ := sold sale made
    obtain rfl : sale.entry = e := State.entry_of_saleOf made
    rw [made] at answer
    dsimp only at answer
    have shut := Sale.isOpen_eq_false (sale := sale) (clock := s.clock.count)
    rw [window] at shut
    refine ite_prop_iff_and.mpr ⟨fun outside => ?_, fun inside => ?_⟩
    · rw [if_pos (shut.mpr outside)] at answer
      exact answer.symm
    · rw [if_neg (fun closed => inside (shut.mp closed))] at answer
      refine ite_prop_iff_and.mpr ⟨fun held => ?_, fun new => ?_⟩
      · obtain ⟨r, found⟩ := State.rentalOf_iff.mpr held
        rw [found] at answer
        exact answer.symm
      · have absent : s.rentalOf sale.entry.service = none := by
          by_contra some
          exact new (State.rentalOf_iff.mp (Option.ne_none_iff_exists'.mp some))
        rw [absent, s.judgeTerms_eq, price] at answer
        dsimp only at answer
        refine ite_prop_iff_and.mpr ⟨fun unpriced => ?_, fun priced => ite_prop_iff_and.mpr ⟨fun declined => ?_, fun free =>
          ite_prop_iff_and.mpr ⟨fun many => ?_, fun few => ?_⟩⟩⟩
        · rw [if_pos unpriced] at answer
          exact answer.symm
        · rw [if_neg priced, if_pos declined] at answer
          exact answer.symm
        · rw [if_neg priced, if_neg free, if_pos many] at answer
          exact answer.symm
        · rw [if_neg priced, if_neg free, if_neg few] at answer
          exact State.judgeSale_result answer price

/-- The checks of a cancel of a rental of the session in force, from check 2 on (R125). -/
theorem State.cancelRequest_result {index : Nat} {r : Rental} {carried : Option Nat} {result : Result}
    (numbers : (s.charges.entries.map (·.number)).Nodup) (found : (indexOf index).bind s.rentalAt = some r)
    (session : r.session = s.room.session) (answer : (s.cancelRequest index carried).2.1 = result) :
    if s.lock.pin.isSome = true ∧ carried.isSome = true ∧ s.lock.lockout = true then result = .pinLocked
    else if s.lock.pin.isSome = true ∧ carried.isSome = true ∧ carried ≠ s.lock.pin then result = .pinWrong
    else if s.lock.pin.isSome = true ∧ carried = none ∧ s.room.terms.pinOnPurchase = true then result = .pinRequired
    else if r.grace ≤ r.viewed / 60 then result = .cancelTooLate
    else if ∃ x ∈ s.charges.entries, r.charge = some x.number ∧ x.state = .declined then result = .billingHeld
    else if r.charge.isSome = true ∧ r.waived = false ∧
        (∀ x ∈ s.charges.entries, r.charge = some x.number → x.state ≠ .waiting) ∧ 12 ≤ s.charges.entries.length then
      result = .queueFull
    else result = .ok := by
  have pin := s.judgePin_result s.room.terms.pinOnPurchase carried
  obtain ⟨v, refusal, attempt⟩ : ∃ v refusal, s.judgePin s.room.terms.pinOnPurchase carried = (v, refusal) := ⟨_, _, rfl⟩
  have outcome := State.judgePin_outcome attempt
  rw [attempt] at pin
  dsimp only at pin
  unfold State.cancelRequest at answer
  rw [found] at answer
  dsimp only at answer
  rw [if_neg (fun differs => differs session), attempt] at answer
  refine ite_prop_iff_and.mpr ⟨fun locked => ?_, fun free => ite_prop_iff_and.mpr ⟨fun wrong => ?_, fun right =>
    ite_prop_iff_and.mpr ⟨fun missing => ?_, fun present => ?_⟩⟩⟩
  · rw [if_pos locked] at pin
    subst pin
    exact answer.symm
  · rw [if_neg free, if_pos wrong] at pin
    subst pin
    exact answer.symm
  · rw [if_neg free, if_neg right, if_pos missing] at pin
    subst pin
    exact answer.symm
  · rw [if_neg free, if_neg right, if_neg present] at pin
    subst pin
    dsimp only at answer
    rw [outcome.writes.judgeCancel, State.judgeCancel_eq numbers] at answer
    refine ite_prop_iff_and.mpr ⟨fun late => ?_, fun early => ite_prop_iff_and.mpr ⟨fun declined => ?_, fun undeclined =>
      ite_prop_iff_and.mpr ⟨fun full => ?_, fun place => ?_⟩⟩⟩
    · rw [if_pos late] at answer
      exact answer.symm
    · rw [if_neg early, if_pos declined] at answer
      exact answer.symm
    · rw [if_neg early, if_neg undeclined, if_pos full] at answer
      exact answer.symm
    · rw [if_neg early, if_neg undeclined, if_neg place] at answer
      exact answer.symm

/-- A cancel of no rental of the session in force (R125 check 1). -/
theorem State.cancelRequest_noRental {index : Nat} {carried : Option Nat} {result : Result}
    (absent : ∀ r, (indexOf index).bind s.rentalAt = some r → r.session ≠ s.room.session)
    (answer : (s.cancelRequest index carried).2.1 = result) : result = .noRental := by
  unfold State.cancelRequest at answer
  cases found : (indexOf index).bind s.rentalAt with
  | none =>
    rw [found] at answer
    exact answer.symm
  | some r =>
    rw [found] at answer
    dsimp only at answer
    rw [if_pos (absent r found)] at answer
    exact answer.symm

/-- The rental a byte names, by its index (R125, R199). -/
theorem State.named_iff (indices : (s.rentals.map (·.index)).Nodup) {index : Nat} {r : Rental} :
    (indexOf index).bind s.rentalAt = some r ↔ r ∈ s.rentals ∧ r.index.val = index := by
  constructor
  · intro found
    obtain ⟨i, named, at_⟩ := Option.bind_eq_some_iff.mp found
    unfold indexOf at named
    split at named
    · obtain rfl := Option.some.inj named
      exact ⟨List.mem_of_find?_eq_some at_, congrArg Fin.val (Moves.index_of_rentalAt at_)⟩
    · cases named
  · rintro ⟨held, rfl⟩
    rw [indexOf, dif_pos r.index.isLt, Option.bind_some]
    exact State.rentalAt_of_mem indices held

/-- A request's row carries the answer of its judgement (R185). -/
theorem exec_request_answers (ready : s.Ready) (k : MlKind) (tag : Byte) {body : List Byte} (fits : body.length ∈ k.bodyLengths) :
    ∃ t result reply, exec (k.request tag body) s = .next t ∧ t.link.tx = .sending ⟨k.code, tag, result, reply⟩ ∧
      ((s.setTx .idle).mlAct k body).2.1 = result := by
  obtain ⟨u, ⟨result, reply⟩, judged⟩ : ∃ u answer, (s.setTx .idle).mlAct k body = (u, answer) := ⟨_, _, rfl⟩
  obtain ⟨done, tx, -⟩ := exec_request_of_ready ready tag ((State.judgeRequest_of_length fits).trans judged)
  exact ⟨_, result, reply, done, tx, by rw [judged]⟩

/-- Settles O54: a refusal is made at once, by the PIN or behind it; the checks are followed one by one. -/
theorem aRefusalChangesOnlyThePinRecord : Obligations.ARefusalChangesOnlyThePinRecord := by
  refine ⟨fun s t tag body k result reply ready sells done sent refused => refusal_of_request ready sells done sent refused,
    fun s tag a n service pin ready names last two => ?_, fun s tag index pin ready two numbers => ?_⟩
  · obtain ⟨t, result, reply, done, sent, answer⟩ := exec_request_answers ready .purchase tag
      (body := a :: beBytes 2 service ++ pin) (by rcases two with rfl | two <;> simp [MlKind.bodyLengths, *])
    refine ⟨t, result, reply, done, sent, ?_⟩
    rw [State.mlAct_purchase last] at answer
    refine ite_prop_iff_and.mpr ⟨fun closed => ?_, fun occupied => ite_prop_iff_and.mpr ⟨fun unset => ?_, fun clock => ?_⟩⟩
    · unfold State.purchaseRequest at answer
      rw [screenOf_toNat names] at answer
      dsimp only at answer
      rw [if_pos (show (s.setTx .idle).room.occupancy ≠ .occupied from closed)] at answer
      exact answer.symm
    · unfold State.purchaseRequest at answer
      rw [screenOf_toNat names] at answer
      dsimp only at answer
      rw [if_neg (show ¬ (s.setTx .idle).room.occupancy ≠ .occupied from occupied),
        if_pos (show ¬ (s.setTx .idle).clock.isSet = true from Bool.eq_false_iff.mp unset)] at answer
      exact answer.symm
    · have isSet : s.clock.isSet = true := Bool.not_eq_false _ ▸ clock
      cases entry : s.lineup.active.find? (fun e => e.service == service) with
      | none =>
        unfold State.purchaseRequest at answer
        rw [screenOf_toNat names] at answer
        dsimp only at answer
        rw [if_neg (show ¬ (s.setTx .idle).room.occupancy ≠ .occupied from occupied),
          if_neg (fun unset : ¬ (s.setTx .idle).clock.isSet = true => unset isSet),
          show (s.setTx .idle).entry service = none from entry] at answer
        exact answer.symm
      | some e =>
        obtain rfl : e.service = service := State.service_of_entry (s := s) entry
        exact State.purchaseRequest_result (s := s.setTx .idle) names (not_not.mp occupied) isSet entry answer
  · obtain ⟨t, result, reply, done, sent, answer⟩ := exec_request_answers ready .cancelRental tag
      (body := index :: pin) (by rcases two with rfl | two <;> simp [MlKind.bodyLengths, *])
    refine ⟨t, result, reply, done, sent, ?_⟩
    have carried : carriedPin (index :: pin) 1 = carriedPin pin 0 := carriedPin_behind [index] pin
    rw [State.mlAct, field_first, carried] at answer
    cases found : s.rentals.find? (fun r => r.index.val == index.toNat && r.session == s.room.session) with
    | none =>
      intro indices
      refine State.cancelRequest_noRental (s := s.setTx .idle) (fun r named session => ?_) answer
      obtain ⟨held, own⟩ := (State.named_iff (s := s.setTx .idle) indices).mp named
      exact absurd (List.find?_eq_none.mp found r held) (by
        rw [own, show r.session = s.room.session from session]
        simp)
    | some r =>
      intro indices
      have fits := List.find?_some found
      rw [Bool.and_eq_true, beq_iff_eq, beq_iff_eq] at fits
      obtain ⟨own, session⟩ := fits
      have named := (State.named_iff (s := s.setTx .idle) indices).mpr ⟨List.mem_of_find?_eq_some found, own⟩
      exact State.cancelRequest_result (s := s.setTx .idle) numbers named session answer

end Sys2Proof.Machine
end

section
/-! PROOFS. Starts, cold and warm, and the reset pin (R108, R109). -/

namespace Sys2Proof.Machine

variable {s t : State}

/-! ### A cold start's notices -/

/-- The RENTALS notice of so many ends, none for no end (R129, R189). -/
def rentalsNotice (raises : Nat) (view : List RentalBrief) : List Notice :=
  if raises = 0 then [] else [⟨.rentals, .rentals view, raises⟩]

/-- One more end files the notice, or raises it again (R189). -/
theorem noticesAfter_rentals {l : MediaLink} {k : Nat} {old view : List RentalBrief} (few : k < 255)
    (queue : l = { MediaLink.atStart with notices := rentalsNotice k old }) :
    l.noticesAfter .rentals (.rentals view) false = rentalsNotice (k + 1) view ∧ l.armedAfter .rentals false = l.armed := by
  subst queue
  refine ⟨?_, rfl⟩
  cases k with
  | zero => rfl
  | succ k =>
    have raised : min (k + 1 + 1) maxRaises = k + 1 + 1 := Nat.min_eq_left (by unfold maxRaises; omega)
    show [{ (⟨.rentals, .rentals old, k + 1⟩ : Notice) with
      snapshot := .rentals view, raises := min (k + 1 + 1) maxRaises }] = [⟨.rentals, .rentals view, k + 1 + 1⟩]
    rw [raised]

/-- The ends of all rentals of an unwatched part leave one RENTALS notice, raised once for each (R109, R129). -/
theorem State.Unwatched.link_endRentals (h : s.Unwatched) (indices : (s.rentals.map (·.index)).Nodup) {k : Nat}
    (few : k + s.rentals.length < 256)
    (link : s.link = { MediaLink.atStart with notices := rentalsNotice k s.rentalsView }) :
    (s.endRentals (s.rentals.map (·.index))).link =
      { MediaLink.atStart with notices := rentalsNotice (k + s.rentals.length) [] } := by
  obtain ⟨list, rentals⟩ : ∃ list, s.rentals = list := ⟨_, rfl⟩
  induction list generalizing s k with
  | nil =>
    have none : s.rentalsView = [] := by
      rw [State.rentalsView, rentals]
      rfl
    rw [rentals]
    rw [none] at link
    exact link
  | cons r rest ih =>
    have found : s.rentalAt r.index = some r := State.rentalAt_of_mem indices (rentals ▸ List.mem_cons_self)
    have once := indices
    rw [rentals, List.map_cons, List.nodup_cons] at once
    obtain ⟨apart, once⟩ := once
    have left : s.rentals.filter (fun x => x.index ≠ r.index) = rest := by
      rw [rentals, List.filter_cons, if_neg (by simp), List.filter_eq_self]
      exact fun x held => decide_eq_true fun same => apart (same ▸ List.mem_map_of_mem held)
    have step := h.endRental_eq found
    rw [left] at step
    obtain ⟨unwatched, -⟩ := h.endRental r.index
    rw [rentals, List.length_cons] at few
    obtain ⟨notices, armed⟩ := noticesAfter_rentals (view := ({ s with rentals := rest } : State).rentalsView)
      (show k < 255 by omega) link
    have listed : (s.endRental r.index).rentals = rest := by
      rw [step]
      rfl
    have next : (s.endRental r.index).link =
        { MediaLink.atStart with notices := rentalsNotice (k + 1) (s.endRental r.index).rentalsView } := by
      rw [step]
      show { s.link with
        notices := s.link.noticesAfter .rentals (.rentals ({ s with rentals := rest } : State).rentalsView) false
        armed := s.link.armedAfter .rentals false } = _
      rw [notices, armed, link]
      rfl
    have rested := ih unwatched (by rwa [listed]) (k := k + 1) (by rw [listed]; omega) next listed
    rw [listed] at rested
    rw [rentals, List.map_cons, State.endRentals, List.foldl_cons, List.length_cons, ← Nat.add_assoc, Nat.add_right_comm]
    exact rested

/-- What a cold start leaves of the media link: the RENTALS notice, and BILLING for a hold it ended (R109, R129, R156). -/
theorem State.link_coldBlocks (indices : (s.rentals.map (·.index)).Nodup) :
    s.coldBlocks.link = { MediaLink.atStart with notices := rentalsNotice s.rentals.length [] ++
      if s.held = true then [⟨.billing, .billing none 0, 1⟩] else [] } := by
  have many : s.rentals.length ≤ 8 := by
    have bounded := (indices.subperm fun i _ => List.mem_finRange i).length_le
    rwa [List.length_map, List.length_finRange] at bounded
  have kept : s.volatileStart.rentals.map (·.index) = s.rentals.map (·.index) := by
    show (s.rentals.map _).map _ = _
    rw [List.map_map]
    rfl
  have length : s.volatileStart.rentals.length = s.rentals.length := List.length_map _
  have ended := s.unwatched_volatileStart.link_endRentals (by rwa [kept]) (k := 0) (by rw [length]; omega) rfl
  rw [length, Nat.zero_add] at ended
  unfold State.coldBlocks
  dsimp only
  rw [← State.endAllRentals] at ended
  generalize s.volatileStart.endAllRentals = z at *
  obtain ⟨⟩ := z
  dsimp only at ended
  subst ended
  split
  · generalize s.rentals.length = k
    unfold rentalsNotice
    split <;> rfl
  · rw [List.append_nil]

/-! ### A warm start's tests -/

/-- Tests none of which is due change nothing (R90, R108). -/
theorem State.startTask_of_quiet (stays : ∀ r ∈ s.rentals, s.clock.count < r.stop)
    (period : s.room.period.any (fun p => decide (s.clock.count < p.stop)) = true) (task : ClockTask) : s.startTask task = s := by
  cases task with
  | rentalEnds =>
    have none : s.rentals.filter (fun r => r.due s.clock) = [] := List.filter_eq_nil_iff.mpr fun r held => by
      have later := stays r held
      simp [Rental.due]
      omega
    show s.endRentals _ = s
    rw [none]
    rfl
  | capPeriod =>
    obtain ⟨p, own, running⟩ := (Option.any_eq_true _ _).mp period
    have later := of_decide_eq_true running
    have waits : s.periodDue = false := by
      simp [State.periodDue, own]
      omega
    show (if s.room.period.isNone then s.startPeriod else s.periodTest) = s
    rw [own, if_neg (by simp), State.periodTest, waits]
    rfl
  | _ => rfl

theorem State.warmBlocks_of_quiet (quiet : s.clock.isSet = true → (∀ r ∈ s.rentals, s.clock.count < r.stop) ∧
      s.room.period.any (fun p => decide (s.clock.count < p.stop)) = true) (order : List ClockTask) :
    s.warmBlocks order = s.warmBegin := by
  unfold State.warmBlocks
  dsimp only
  split
  next isSet =>
    obtain ⟨stays, period⟩ := quiet isSet
    have still := State.startTask_of_quiet (s := s.warmBegin) (fun r held => by
      obtain ⟨x, was, rfl⟩ := List.mem_map.mp held
      exact stays x was) period
    exact foldl_state_keeps (law := fun t => t = s.warmBegin) (fun t task same => by
      rw [same]
      exact still task) (takeOrder clockTasks order) rfl
  · rfl

/-- Settles O23. -/
theorem aStartIsWarmOrCold : Obligations.AStartIsWarmOrCold := by
  refine ⟨fun s order indices => ?_, fun s order quiet => ?_, fun s good held order powered => ?_⟩
  · show Host.Outcome.next (s.coldBlocks.raiseStart .cold) = _
    have link := State.link_coldBlocks indices
    rw [s.held_eq] at link
    rw [s.coldBlocks_eq]
    generalize s.coldBlocks.link = l at *
    subst link
    rw [show rentalsNotice s.rentals.length [] = if s.rentals = [] then [] else [⟨.rentals, .rentals [], s.rentals.length⟩] from
      if_congr List.length_eq_zero_iff rfl rfl, List.append_assoc]
    rfl
  · show Host.Outcome.next ((s.warmBlocks order).raiseStart .warm) = _
    rw [State.warmBlocks_of_quiet quiet, ← s.held_eq, ← List.length_map (as := s.rentals) Rental.unseated]
    rfl
  · refine ⟨(s.countHeld held).start good order, ?_, fun isSet => ?_, fun unset => ?_⟩
    · exact congrArg Host.Outcome.next (State.ifPowered_of_powered powered _)
    · rw [State.countHeld, if_pos isSet]
      rfl
    · rw [State.countHeld, if_neg (by simp [unset])]
      rfl

end Sys2Proof.Machine
end

section
/-! SUPPORT. The timers of a run tick, one by one (R56, R75, R80, R179). -/

namespace Sys2Proof.Machine

variable {s t u : State} {n m : Screen}

/-! ### A fold that establishes what it then keeps -/

theorem foldl_establishes {α : Type} {f : State → α → State} {base law : State → Prop} {acting : α} {order : List α}
    (taken : acting ∈ order) (keeps : ∀ t x, base t → base (f t x)) (acts : ∀ t, base t → law (f t acting))
    (stays : ∀ t x, base t → law t → law (f t x)) (start : base s) : law (order.foldl f s) := by
  obtain ⟨before, after, rfl⟩ := List.append_of_mem taken
  rw [List.foldl_append, List.foldl_cons]
  have reached : base (before.foldl f s) := foldl_state_keeps keeps before start
  generalize before.foldl f s = t at reached
  exact (foldl_state_keeps (law := fun t => base t ∧ law t) (fun t x h => ⟨keeps t x h.1, stays t x h.1 h.2⟩) after
    ⟨keeps t acting reached, acts t reached⟩).2

theorem mem_runTimers (x : RunTimer) : x ∈ runTimers := by
  cases x with
  | preview n => revert n; decide
  | unlock n => revert n; decide
  | lockout | silence => decide

/-! ### What a timer's test is -/

/-- The state in which the lane of an expired preview is admitted (R56). -/
def State.previewDropped (s : State) (n : Screen) : State :=
  (s.lane n).tuned.elim (s.setLane n { s.lane n with previewEnd := none }) (s.previewOver n)

theorem State.expirePreview_eq (s : State) (n : Screen) : s.expirePreview n = (s.previewDropped n).admitLane n := by
  unfold State.expirePreview
  dsimp only
  split
  next untuned => simp only [State.previewDropped, untuned, Option.elim]
  next service tuned => simp only [State.previewDropped, State.previewOver, tuned, Option.elim]

/-- It differs in that preview end and the preview-used list (R56). -/
theorem State.previewDropped_spec (s : State) (n : Screen) :
    Viewing s (s.previewDropped n) ∧ (s.previewDropped n).lane n = { s.lane n with previewEnd := none } ∧
      (∀ m ≠ n, (s.previewDropped n).lane m = s.lane m) ∧ (s.previewDropped n).rentals = s.rentals := by
  have dropped : Viewing s (s.setLane n { s.lane n with previewEnd := none }) := .setLane s n _ rfl
  unfold State.previewDropped
  cases (s.lane n).tuned with
  | none => exact ⟨dropped, State.lane_setLane_self .., fun m other => State.lane_setLane_ne s other _, rfl⟩
  | some service =>
    exact ⟨dropped.trans (.addPreviewUsed _ service), State.lane_setLane_self .., fun m other => State.lane_setLane_ne s other _, rfl⟩

/-- The lane neither begins a preview nor has one to keep (R50, R56). -/
theorem State.verdict_previewDropped (s : State) (n : Screen) :
    (∀ k, (s.previewDropped n).verdict n ≠ .previewStart k) ∧ (s.previewDropped n).verdict n ≠ .previewKeep := by
  cases tuned : (s.lane n).tuned with
  | none =>
    obtain ⟨view, -⟩ := s.previewDropped_spec n
    have off := State.verdict_untuned (s := s.previewDropped n) (n := n) ((view.tuned n).trans tuned)
    rw [off]
    exact ⟨nofun, nofun⟩
  | some service =>
    have same : s.previewDropped n = s.previewOver n service := by
      rw [State.previewDropped, tuned]
      rfl
    rw [same]
    exact State.verdict_previewOver tuned

/-- A preview's test does nothing, or admits the lane without that preview (R56). -/
theorem State.previewTest_cases (s : State) (n : Screen) :
    (s.previewTest n = s ∧ ∀ stop ∈ (s.lane n).previewEnd, s.clock.run < stop) ∨
      s.previewTest n = (s.previewDropped n).admitLane n := by
  unfold State.previewTest
  cases due : s.previewDue n with
  | true => exact .inr (s.expirePreview_eq n)
  | false =>
    refine .inl ⟨rfl, fun stop own => ?_⟩
    rw [State.previewDue, Option.mem_def.mp own] at due
    exact Nat.not_le.mp (of_decide_eq_false due)

/-- An unlock's test does nothing, or admits the lane without that unlock (R80). -/
theorem State.unlockTest_cases (s : State) (n : Screen) :
    (s.unlockTest n = s ∧ ∀ u ∈ s.unlockOf n, s.clock.run < u.stop) ∨
      s.unlockTest n = (s.setUnlock n none).admitLane n := by
  unfold State.unlockTest
  cases held : s.unlockOf n with
  | none => exact .inl ⟨rfl, nofun⟩
  | some u =>
    dsimp only
    split
    · exact .inr rfl
    next early =>
      refine .inl ⟨rfl, ?_⟩
      rintro _ ⟨⟩
      exact Nat.not_le.mp early

/-- The lockout's test does nothing, or clears the lockout (R75). -/
theorem State.lockoutTest_cases (s : State) :
    (s.lockoutTest = s ∧ (s.lock.lockout = true → ∀ stop ∈ s.lock.lockoutEnd, s.clock.run < stop)) ∨
      s.lockoutTest = ({ s with lock := s.lock.noLockout }).raisePin false := by
  unfold State.lockoutTest
  cases due : s.lockoutDue with
  | true => exact .inr rfl
  | false =>
    refine .inl ⟨rfl, fun locked stop own => ?_⟩
    rw [State.lockoutDue, locked, Option.mem_def.mp own] at due
    exact Nat.not_le.mp (of_decide_eq_false due)

/-- A test of the lock or of the line admits no lane. -/
theorem State.timerTest_still (s : State) {x : RunTimer} (still : x = .lockout ∨ x = .silence) :
    (s.timerTest x).lane = s.lane ∧ (s.timerTest x).rentals = s.rentals ∧ (s.timerTest x).clock = s.clock ∧
      (s.timerTest x).lock.unlocks = s.lock.unlocks := by
  obtain rfl | rfl := still
  · obtain ⟨same, -⟩ | ended := s.lockoutTest_cases
    · rw [State.timerTest, same]
      exact ⟨rfl, rfl, rfl, rfl⟩
    · rw [State.timerTest, ended]
      exact ⟨rfl, rfl, rfl, rfl⟩
  · show s.silenceTest.lane = _ ∧ _
    unfold State.timerTest State.silenceTest
    split <;> exact ⟨rfl, rfl, rfl, rfl⟩

/-! ### What every timer leaves -/

theorem State.clock_timerTest (s : State) (x : RunTimer) : (s.timerTest x).clock = s.clock := by
  cases x with
  | preview n =>
    obtain ⟨same, -⟩ | due := s.previewTest_cases n
    · exact congrArg State.clock same
    · obtain ⟨view, -⟩ := s.previewDropped_spec n
      exact (congrArg State.clock due).trans (view.trans (.admitLane ..)).only.frame.2.2.1
  | unlock n =>
    obtain ⟨same, -⟩ | due := s.unlockTest_cases n
    · exact congrArg State.clock same
    · exact (congrArg State.clock due).trans (Viewing.admitLane (s.setUnlock n none) n).only.frame.2.2.1
  | lockout => exact (s.timerTest_still (.inl rfl)).2.2.1
  | silence => exact (s.timerTest_still (.inr rfl)).2.2.1

/-- An unlock stands or ends, and none that is due stands its own test (R80). -/
theorem State.unlockOf_timerTest (s : State) (x : RunTimer) (n : Screen) :
    ((s.timerTest x).unlockOf n = s.unlockOf n ∨ (s.timerTest x).unlockOf n = none) ∧
      (x = .unlock n → ∀ u ∈ (s.timerTest x).unlockOf n, s.clock.run < u.stop) := by
  cases x with
  | preview m =>
    refine ⟨.inl ?_, nofun⟩
    obtain ⟨same, -⟩ | due := s.previewTest_cases m
    · exact congrArg (·.unlockOf n) same
    · obtain ⟨view, -⟩ := s.previewDropped_spec m
      exact (congrArg (·.unlockOf n) due).trans ((view.trans (.admitLane ..)).unlockOf n)
  | unlock m =>
    obtain ⟨same, early⟩ | due := s.unlockTest_cases m
    · rw [State.timerTest, same]
      refine ⟨.inl rfl, ?_⟩
      rintro ⟨⟩
      exact early
    · have unlock : (s.timerTest (.unlock m)).unlockOf n = (s.setUnlock m none).unlockOf n :=
        (congrArg (·.unlockOf n) due).trans ((Viewing.admitLane (s.setUnlock m none) m).unlockOf n)
      rw [unlock]
      by_cases own : n = m
      · subst own
        rw [State.unlockOf_setUnlock_self]
        exact ⟨.inr rfl, fun _ => nofun⟩
      · rw [State.unlockOf_setUnlock_ne s own]
        refine ⟨.inl rfl, ?_⟩
        rintro ⟨⟩
        exact absurd rfl own
  | lockout => exact ⟨.inl (congrArg (·.get n) (s.timerTest_still (.inl rfl)).2.2.2), nofun⟩
  | silence => exact ⟨.inl (congrArg (·.get n) (s.timerTest_still (.inr rfl)).2.2.2), nofun⟩

/-- A lockout stands or ends, and none that is due stands its test (R75). -/
theorem State.lockout_timerTest (s : State) (x : RunTimer) :
    (((s.timerTest x).lock.lockout = s.lock.lockout ∧ (s.timerTest x).lock.lockoutEnd = s.lock.lockoutEnd) ∨
        (s.timerTest x).lock.lockoutEnd = none) ∧
      (x = .lockout → s.lock.lockout = true → ∀ stop ∈ (s.timerTest x).lock.lockoutEnd, s.clock.run < stop) := by
  cases x with
  | preview m =>
    refine ⟨.inl ?_, nofun⟩
    obtain ⟨same, -⟩ | due := s.previewTest_cases m
    · rw [State.timerTest, same]
      exact ⟨rfl, rfl⟩
    · obtain ⟨view, -⟩ := s.previewDropped_spec m
      rw [State.timerTest, due, (view.trans (.admitLane ..)).lock_eq]
      exact ⟨rfl, rfl⟩
  | unlock m =>
    refine ⟨.inl ?_, nofun⟩
    obtain ⟨same, -⟩ | due := s.unlockTest_cases m
    · rw [State.timerTest, same]
      exact ⟨rfl, rfl⟩
    · rw [State.timerTest, due, (Viewing.admitLane (s.setUnlock m none) m).lock_eq]
      exact ⟨rfl, rfl⟩
  | lockout =>
    obtain ⟨same, early⟩ | ended := s.lockoutTest_cases
    · rw [State.timerTest, same]
      exact ⟨.inl ⟨rfl, rfl⟩, fun _ => early⟩
    · rw [State.timerTest, ended]
      exact ⟨.inr rfl, fun _ _ => nofun⟩
  | silence =>
    refine ⟨.inl ?_, nofun⟩
    unfold State.timerTest State.silenceTest
    dsimp only
    split <;> exact ⟨rfl, rfl⟩

end Sys2Proof.Machine
end

section
/-! PROOFS. The run tick (R56, R75, R80, R91, R179). -/

namespace Sys2Proof.Machine

variable {s t u : State} {n m : Screen}

/-! ### Preview ends -/

/-- By this clock, no preview end of the lane has been reached but at the clock's highest count. -/
structure State.Running (c : ClockUnit) (n : Screen) (s : State) : Prop where
  clock : s.clock = c
  ends : ∀ stop ∈ (s.lane n).previewEnd, c.run < stop ∨ c.run = maxCount

namespace State.Running

variable {c : ClockUnit}

/-- An outcome ends a preview, leaves it, or begins one of some seconds (R50, R51). -/
theorem settle (bound : c.run ≤ maxCount) (h : s.Running c n) (m : Screen) : (s.settle m (s.verdict m)).Running c n := by
  refine ⟨(Viewing.settle s m _).only.frame.2.2.1.trans h.clock, fun stop own => ?_⟩
  by_cases other : n = m
  · subst other
    rw [State.lane_settle_self] at own
    cases verdict : s.verdict n with
    | previewStart k =>
      rw [verdict] at own
      have positive := (State.verdict_begins verdict).positive
      have ends : min (s.clock.run + k) maxCount = stop := Option.some.inj own
      rw [h.clock] at ends
      omega
    | previewKeep =>
      rw [verdict] at own
      exact h.ends stop own
    | _ =>
      rw [verdict] at own
      cases own
  · rw [State.lane_settle_ne s other] at own
    exact h.ends stop own

theorem admitLane (bound : c.run ≤ maxCount) (h : s.Running c n) (m : Screen) : (s.admitLane m).Running c n :=
  admitLane_keeps (law := fun t => t.Running c n) (fun _ m h => h.settle bound m)
    (fun t service w h => ⟨h.clock, fun stop own => by
      by_cases given : n = w
      · rw [given, State.lane_give_self] at own
        exact h.ends stop (given ▸ own)
      · rw [State.lane_give_ne t service given] at own
        exact h.ends stop own⟩) m h

/-- The preview of the lane itself needs not be before its test (R56). -/
theorem previewDropped (clock : s.clock = c) (ends : n ≠ m → s.Running c n) : (s.previewDropped m).Running c n := by
  obtain ⟨view, lane, others, -⟩ := s.previewDropped_spec m
  refine ⟨view.only.frame.2.2.1.trans clock, fun stop own => ?_⟩
  by_cases same : n = m
  · rw [same, lane] at own
    cases own
  · rw [others n same] at own
    exact (ends same).ends stop own

theorem timerTest (bound : c.run ≤ maxCount) (h : s.Running c n) (x : RunTimer) : (s.timerTest x).Running c n := by
  have still (still : x = .lockout ∨ x = .silence) : (s.timerTest x).Running c n := by
    obtain ⟨lanes, -, clock, -⟩ := s.timerTest_still still
    refine ⟨clock.trans h.clock, fun stop own => h.ends stop ?_⟩
    rwa [lanes] at own
  cases x with
  | preview m =>
    obtain ⟨same, -⟩ | due := s.previewTest_cases m
    · rwa [State.timerTest, same]
    · rw [State.timerTest, due]
      exact (previewDropped h.clock fun _ => h).admitLane bound m
  | unlock m =>
    obtain ⟨same, -⟩ | due := s.unlockTest_cases m
    · rwa [State.timerTest, same]
    · rw [State.timerTest, due]
      have dropped : (s.setUnlock m none).Running c n := ⟨h.clock, h.ends⟩
      exact dropped.admitLane bound m
  | lockout => exact still (.inl rfl)
  | silence => exact still (.inr rfl)

/-- The lane's own test leaves no preview that is due (R56). -/
theorem of_previewTest (bound : c.run ≤ maxCount) (clock : s.clock = c) (n : Screen) : (s.previewTest n).Running c n := by
  obtain ⟨same, early⟩ | due := s.previewTest_cases n
  · rw [same]
    exact ⟨clock, fun stop own => .inl (clock ▸ early stop own)⟩
  · rw [due]
    exact (previewDropped clock fun other => absurd rfl other).admitLane bound n

end State.Running

/-! ### A lane whose preview is due -/

/-- A lane without an unlock, still as it was in its preview, or in none any more. -/
structure Leaving (l : Lane) (n : Screen) (s : State) : Prop where
  law : s.SeatLaw
  unlock : s.unlockOf n = none
  lane : (s.lane n).Idle ∨ s.lane n = l

/-- An admission of another lane leaves it so (R55). -/
theorem Leaving.admitLane {l : Lane} (free : l.standing = .none) (h : Leaving l n s) {w : State} (law : w.SeatLaw)
    (unlock : w.unlockOf n = none) (same : w.lane n = s.lane n) (apart : n ≠ m) :
    Leaving l n (w.admitLane m) ∧ ((s.lane n).Idle → ((w.admitLane m).lane n).Idle) := by
  have suits := w.verdict_suits m
  have idles (idle : (s.lane n).Idle) : ((w.admitLane m).lane n).Idle :=
    law.admitAs_idle suits (by rw [State.lane_settle_ne w apart, same]; exact idle)
  refine ⟨⟨(Reseated.admitAs suits).1.law law, ((Viewing.admitLane w m).unlockOf n).trans unlock, ?_⟩, idles⟩
  refine h.lane.imp idles fun was => ?_
  have stands : (w.admitLane m).lane n = w.lane n := law.admitAs_free suits apart (by rw [same, was, free]; nofun)
  rw [stands, same, was]

theorem State.SeatLaw.previewDropped (law : s.SeatLaw) (m : Screen) : (s.previewDropped m).SeatLaw := by
  obtain ⟨-, lane, others, rentals⟩ := s.previewDropped_spec m
  refine law.congr (fun k => ?_) rentals
  by_cases own : k = m
  · rw [own, lane]
    exact ⟨rfl, rfl⟩
  · rw [others k own]
    exact ⟨rfl, rfl⟩

/-- The admission that ends a preview leaves none (R50, R56). -/
theorem State.SeatLaw.idle_previewDropped (law : s.SeatLaw) (n : Screen) : (((s.previewDropped n).admitLane n).lane n).Idle := by
  obtain ⟨begins, keeps⟩ := s.verdict_previewDropped n
  obtain ⟨stop, state⟩ := Verdict.outcome_previewEnd (s := s.previewDropped n) (n := n) begins keeps
  refine (law.previewDropped n).admitAs_idle ((s.previewDropped n).verdict_suits n) ?_
  rw [State.lane_settle_self]
  exact ⟨state, stop⟩

theorem Leaving.timerTest {l : Lane} (free : l.standing = .none) (h : Leaving l n s) (x : RunTimer) :
    Leaving l n (s.timerTest x) ∧ ((s.lane n).Idle → ((s.timerTest x).lane n).Idle) := by
  have unlock : (s.timerTest x).unlockOf n = none := by
    obtain same | none := (s.unlockOf_timerTest x n).1
    · exact same.trans h.unlock
    · exact none
  have still (still : x = .lockout ∨ x = .silence) :
      Leaving l n (s.timerTest x) ∧ ((s.lane n).Idle → ((s.timerTest x).lane n).Idle) := by
    obtain ⟨lanes, rentals, -⟩ := s.timerTest_still still
    refine ⟨⟨h.law.congr (fun m => by rw [lanes]; exact ⟨rfl, rfl⟩) rentals, unlock, by rw [lanes]; exact h.lane⟩, fun idle => ?_⟩
    rwa [lanes]
  cases x with
  | preview m =>
    obtain ⟨same, -⟩ | due := s.previewTest_cases m
    · rw [State.timerTest, same]
      exact ⟨h, id⟩
    · by_cases own : n = m
      · subst own
        have idle := h.law.idle_previewDropped n
        rw [State.timerTest, due] at unlock ⊢
        exact ⟨⟨(Reseated.admitAs (State.verdict_suits _ n)).1.law (h.law.previewDropped n), unlock, .inl idle⟩, fun _ => idle⟩
      · obtain ⟨view, -, others, -⟩ := s.previewDropped_spec m
        rw [State.timerTest, due]
        exact h.admitLane free (h.law.previewDropped m) ((view.unlockOf n).trans h.unlock) (others n own) own
  | unlock m =>
    obtain ⟨same, -⟩ | due := s.unlockTest_cases m
    · rw [State.timerTest, same]
      exact ⟨h, id⟩
    · by_cases own : n = m
      · subst own
        have same : s.unlockTest n = s := by
          unfold State.unlockTest
          rw [h.unlock]
        rw [State.timerTest, same]
        exact ⟨h, id⟩
      · rw [State.timerTest, due]
        exact h.admitLane (w := s.setUnlock m none) free (h.law.congr (fun _ => ⟨rfl, rfl⟩) rfl)
          ((State.unlockOf_setUnlock_ne s own none).trans h.unlock) rfl own
  | lockout => exact still (.inl rfl)
  | silence => exact still (.inr rfl)

/-- Its own test takes the lane out of a preview that is due (R56). -/
theorem Leaving.previewTest {l : Lane} (free : l.standing = .none) {stop : Nat} (ends : stop ∈ l.previewEnd)
    (due : stop ≤ s.clock.run) (h : Leaving l n s) : ((s.previewTest n).lane n).Idle := by
  obtain idle | was := h.lane
  · exact (h.timerTest free (.preview n)).2 idle
  · obtain ⟨-, early⟩ | tested := s.previewTest_cases n
    · exact absurd due (Nat.not_le.mpr (early stop (was ▸ ends)))
    · rw [tested]
      exact h.law.idle_previewDropped n

/-! ### The tick -/

theorem State.clock_tick (s : State) (order : List RunTimer) : (s.tick order).clock = s.tickCounts.clock :=
  foldl_state_keeps (law := fun t => t.clock = s.tickCounts.clock) (fun t x same => (t.clock_timerTest x).trans same)
    (takeOrder runTimers order) rfl

theorem State.run_tickCounts_le (s : State) : s.tickCounts.clock.run ≤ maxCount := Nat.min_le_right _ _

/-- A run tick that finds no timer due is its counts (R91). -/
theorem State.tick_of_quiet (order : List RunTimer)
    (lanes : ∀ n : Screen, (∀ e ∈ (s.lane n).previewEnd, s.tickCounts.clock.run < e) ∧
      ∀ u ∈ s.unlockOf n, s.tickCounts.clock.run < u.stop)
    (lockout : ∀ e ∈ s.lock.lockoutEnd, s.tickCounts.clock.run < e) (silence : s.line.up = true → s.line.silence < 299) :
    s.tick order = s.tickCounts := by
  have still (x : RunTimer) : s.tickCounts.timerTest x = s.tickCounts := by
    cases x with
    | preview n =>
      refine if_neg fun due => ?_
      unfold State.previewDue at due
      split at due
      next stop own => exact absurd (of_decide_eq_true due) (Nat.not_le.mpr ((lanes n).1 stop own))
      · cases due
    | unlock n =>
      obtain ⟨same, -⟩ | due := s.tickCounts.unlockTest_cases n
      · exact same
      · show s.tickCounts.unlockTest n = _
        unfold State.unlockTest
        split
        next u own => exact if_neg (Nat.not_le.mpr ((lanes n).2 u own))
        · rfl
    | lockout =>
      refine if_neg fun due => ?_
      obtain ⟨-, reached⟩ := (Bool.and_eq_true_iff.mp due : _ ∧ _)
      obtain ⟨stop, own, late⟩ := (Option.any_eq_true _ _).mp reached
      exact absurd (of_decide_eq_true late) (Nat.not_le.mpr (lockout stop own))
    | silence =>
      refine if_neg fun ⟨up, late⟩ => ?_
      have counted : s.tickCounts.line.silence = s.line.silence + 1 := if_pos up
      have few := silence up
      rw [counted] at late
      unfold silenceLimit at late
      omega
  exact foldl_state_keeps (law := fun t => t = s.tickCounts) (fun t x same => by rw [same, still]) (takeOrder runTimers order) rfl

/-- Of the unlocks those that are not due stay (R80). -/
theorem State.unlockOf_tick (s : State) (order : List RunTimer) {u : Unlock} (own : u ∈ (s.tick order).unlockOf n) :
    s.tickCounts.clock.run < u.stop ∧ s.unlockOf n = some u := by
  have before (t : State) (x : RunTimer) (u : Unlock) (own : u ∈ (t.timerTest x).unlockOf n) : u ∈ t.unlockOf n := by
    obtain same | none := (t.unlockOf_timerTest x n).1
    · exact same ▸ own
    · rw [none] at own
      cases own
  refine ⟨?_, ?_⟩
  · have left := foldl_establishes (f := State.timerTest) (base := fun t => t.clock = s.tickCounts.clock)
      (law := fun t => ∀ u ∈ t.unlockOf n, s.tickCounts.clock.run < u.stop)
      (mem_takeOrder (named := order) (mem_runTimers (.unlock n))) (fun t x same => (t.clock_timerTest x).trans same)
      (fun t same u own => same ▸ (t.unlockOf_timerTest _ n).2 rfl u own) (fun t x _ h u own => h u (before t x u own)) rfl
    exact left u own
  · have was := foldl_state_keeps (f := State.timerTest) (law := fun t => ∀ u ∈ t.unlockOf n, s.unlockOf n = some u)
      (fun t x h u own => h u (before t x u own)) (takeOrder runTimers order) (s := s.tickCounts) fun u own => own
    exact was u own

/-- A lockout that stays is not due (R75). -/
theorem State.lockoutEnd_tick (timed : s.lock.lockoutEnd.isSome = true → s.lock.lockout = true) (order : List RunTimer) {stop : Nat}
    (own : stop ∈ (s.tick order).lock.lockoutEnd) : s.tickCounts.clock.run < stop := by
  have before (t : State) (x : RunTimer) (stop : Nat) (own : stop ∈ (t.timerTest x).lock.lockoutEnd) :
      (t.timerTest x).lock.lockout = t.lock.lockout ∧ stop ∈ t.lock.lockoutEnd := by
    obtain ⟨locked, same⟩ | none := (t.lockout_timerTest x).1
    · exact ⟨locked, same ▸ own⟩
    · rw [none] at own
      cases own
  have left := foldl_establishes (f := State.timerTest)
    (base := fun t => t.clock = s.tickCounts.clock ∧ ∀ stop ∈ t.lock.lockoutEnd, t.lock.lockout = true)
    (law := fun t => ∀ stop ∈ t.lock.lockoutEnd, s.tickCounts.clock.run < stop)
    (mem_takeOrder (named := order) (mem_runTimers .lockout))
    (fun t x h => ⟨(t.clock_timerTest x).trans h.1, fun stop own => by
      obtain ⟨locked, was⟩ := before t x stop own
      exact locked.trans (h.2 stop was)⟩)
    (fun t h stop own => h.1 ▸ (t.lockout_timerTest .lockout).2 rfl (h.2 stop (before t .lockout stop own).2) stop own)
    (fun t x _ h stop own => h stop (before t x stop own).2)
    ⟨rfl, fun stop held => timed (Option.isSome_of_mem held)⟩
  exact left stop own

/-- Settles O26: each timer's own test establishes its clause, and every other test keeps it. -/
theorem aRunTickTakesEveryTimer : Obligations.ARunTickTakesEveryTimer := by
  refine ⟨fun s order powered lanes lockout silence => ?_, fun s order powered line lock => ?_⟩
  · show Host.Outcome.next (s.ifPowered fun s => s.tick order) = _
    rw [State.ifPowered_of_powered powered, State.tick_of_quiet order lanes lockout silence]
    rfl
  · refine ⟨s.tick order, congrArg Host.Outcome.next (State.ifPowered_of_powered powered _), ?_, fun n stop own => ?_,
      fun ok n unlock preview stop ends due => ?_, fun n u own => ?_, fun stop own => ?_, ?_⟩
    · rw [s.clock_tick]
      rfl
    · have running := foldl_establishes (f := State.timerTest) (base := fun t => t.clock = s.tickCounts.clock)
        (law := fun t => t.Running s.tickCounts.clock n) (mem_takeOrder (named := order) (mem_runTimers (.preview n)))
        (fun t x same => (t.clock_timerTest x).trans same) (fun t same => .of_previewTest s.run_tickCounts_le same n)
        (fun t x _ h => h.timerTest s.run_tickCounts_le x) rfl
      rw [s.clock_tick]
      exact running.ends stop own
    · have free : (s.lane n).standing = .none := ok.standing_of_preview preview
      rw [s.clock_tick] at due
      have law : s.tickCounts.SeatLaw := ok.seatLaw.congr (fun _ => ⟨rfl, rfl⟩) rfl
      have idle := foldl_establishes (f := State.timerTest)
        (base := fun t => t.clock = s.tickCounts.clock ∧ Leaving (s.lane n) n t) (law := fun t => (t.lane n).Idle)
        (mem_takeOrder (named := order) (mem_runTimers (.preview n)))
        (fun t x h => ⟨(t.clock_timerTest x).trans h.1, (h.2.timerTest free x).1⟩)
        (fun t h => h.2.previewTest free ends (h.1 ▸ due))
        (fun t x h => (h.2.timerTest free x).2) ⟨rfl, law, unlock, .inr rfl⟩
      exact ⟨idle.previewEnd, idle.state⟩
    · rw [s.clock_tick]
      exact s.unlockOf_tick order own
    · obtain ⟨-, -, timed, -⟩ := lock
      rw [s.clock_tick]
      exact State.lockoutEnd_tick timed.mp order own
    · rw [s.tick_line, line.counted]

end Sys2Proof.Machine
end
